-- ==== Sys2Proof/Word.lean ====
section
/-! DEFINITION. Word.lean: the plainest data of the DL-32 model: bytes, the numbers that name a face, a zone, a sensor or a
curve (00_scope.md, section 6), sets of faces, and the table of a fixed number of like records. -/

namespace Sys2Proof

/-- A byte on a link, on the face chain or on the sensor bus. -/
abbrev Byte := BitVec 8

/-- Faces are numbered 0 to 31. -/
abbrev FaceNo := Fin 32
/-- Zones are numbered 0 to 7. -/
abbrev ZoneNo := Fin 8
/-- Sensors are numbered 0 to 3. -/
abbrev SensorNo := Fin 4
/-- Curves are numbered 0 to 7. -/
abbrev CurveNo := Fin 8

/-- A set of face numbers, as the 32-bit mask the links carry (R172): bit k is set when face k is a member. -/
abbrev FaceSet := BitVec 32
/-- A set of fault kinds, as the byte the links carry (R172). -/
abbrev KindSet := BitVec 8

/-- A fixed number of like records, addressed by their number. -/
structure Table (α : Type) (n : Nat) where
  cells : List α
  size_eq : cells.length = n
deriving DecidableEq, Repr

/-- The record of number `i`. -/
def Table.get {α : Type} {n : Nat} (t : Table α n) (i : Fin n) : α :=
  t.cells[i.val]'(t.size_eq.symm ▸ i.isLt)

/-- The table with the record of number `i` replaced. -/
def Table.set {α : Type} {n : Nat} (t : Table α n) (i : Fin n) (a : α) : Table α n :=
  ⟨t.cells.set i.val a, by simp [t.size_eq]⟩

/-- The table with the record of number `i` changed by `f`. -/
def Table.modify {α : Type} {n : Nat} (t : Table α n) (i : Fin n) (f : α → α) : Table α n :=
  t.set i (f (t.get i))

/-- A table of equal records. -/
def Table.replicate {α : Type} (n : Nat) (a : α) : Table α n :=
  ⟨List.replicate n a, by simp⟩

/-- Every record changed by `f`. -/
def Table.map {α β : Type} {n : Nat} (f : α → β) (t : Table α n) : Table β n :=
  ⟨t.cells.map f, by simp [t.size_eq]⟩

/-- Every record changed by `f`, which also sees the record's number. -/
def Table.mapNo {α β : Type} {n : Nat} (f : Fin n → α → β) (t : Table α n) : Table β n :=
  ⟨(List.finRange n).map (fun i => f i (t.get i)), by simp⟩

end Sys2Proof
end

