-- ==== Sys2Proof/Config.lean ====
section
/-! DEFINITION. Config.lean: what the manual fixes for the part as constants, and the one value it leaves open (the order in
which two blocks' notices of one second reach the queue, R149), as a constant with no body. -/

namespace Sys2Proof

/-- R149: notices that different blocks post at the same moment reach the queue in either order. At a one-second event in
which a claim lapses and the automatic snapshot falls, `true` says that the Counter Bank takes the event before the Claim
Table. FREE VALUE: nothing constrains it; log entry 6. -/
opaque Config.bankTakesSecondFirst : Nat → Bool

/-- R149: the Notice Queue holds at most 24 entries. -/
def Config.queueDepth : Nat := 24
/-- R151: a FETCH removes up to 4 entries. -/
def Config.fetchMax : Nat := 4

/-- R170: the identity PING returns. -/
def Config.vendorCode : Nat := 0x2C71
def Config.family : Nat := 3
def Config.part : Nat := 32
def Config.revision : Nat := 1

/-- R167: the start byte of a link frame. -/
def Config.linkStart : Byte := 0xB4#8
/-- R15, R173: the start byte of a chain frame. -/
def Config.chainStart : Byte := 0x5C#8

/-- R167: the length byte of a link frame lies within 2 to 200, so a payload has at most 198 bytes. -/
def Config.maxPayload : Nat := 198

end Sys2Proof
end

