-- ==== Sys2Proof/Syntax.lean ====
section
/-! DEFINITION. Syntax.lean: the commands of the part, one constructor for each row of spec/opcode_table.json. The 34 requests
carry the tag and the payload bytes of their frame (R172); the other rows are events on the part's links, chain, sensor bus,
timers and pins, with what the event brings. -/

namespace Sys2Proof

/-- The two serial links (chapter 11). -/
inductive Link where
  | control
  | authority
deriving DecidableEq, Repr

/-- The levels of the two strap pins (R166), true for high. -/
structure Straps where
  autorun : Bool
  width12 : Bool
deriving DecidableEq, Repr

/-- How an I2C read ends by itself (R29, R173): the three data bytes were received, the most significant first, or the address was
not acknowledged. -/
inductive PollEnd where
  | valid (high middle low : Byte)
  | unacknowledged
deriving DecidableEq, Repr

/-- The 34 requests of section 11.5. -/
inductive RequestKind where
  | ping | status | reset | run | halt | resume
  | setTime | setCurfew | setScan | setZone | readZone | readSensor
  | setCycle | setRetries | setSpan
  | loadCurve | readCurve
  | setFace | enable | disable | condition | restore | readFace | setPersist
  | snapshot | setAutosnap | readCounts
  | fetch | changes | setHoldoff
  | authStatus | authReadFace | claim | release
deriving DecidableEq, Repr

/-- A command to the part: a request on a link, taken at the moment its complete good frame is handed on (R168), or an event. -/
inductive Instr where
  -- requests on the control link
  | ping (tag : Byte) (payload : List Byte)
  | status (tag : Byte) (payload : List Byte)
  | reset (tag : Byte) (payload : List Byte)
  | run (tag : Byte) (payload : List Byte)
  | halt (tag : Byte) (payload : List Byte)
  | resume (tag : Byte) (payload : List Byte)
  | setTime (tag : Byte) (payload : List Byte)
  | setCurfew (tag : Byte) (payload : List Byte)
  | setScan (tag : Byte) (payload : List Byte)
  | setZone (tag : Byte) (payload : List Byte)
  | readZone (tag : Byte) (payload : List Byte)
  | readSensor (tag : Byte) (payload : List Byte)
  | setCycle (tag : Byte) (payload : List Byte)
  | setRetries (tag : Byte) (payload : List Byte)
  | setSpan (tag : Byte) (payload : List Byte)
  | loadCurve (tag : Byte) (payload : List Byte)
  | readCurve (tag : Byte) (payload : List Byte)
  | setFace (tag : Byte) (payload : List Byte)
  | enable (tag : Byte) (payload : List Byte)
  | disable (tag : Byte) (payload : List Byte)
  | condition (tag : Byte) (payload : List Byte)
  | restore (tag : Byte) (payload : List Byte)
  | readFace (tag : Byte) (payload : List Byte)
  | setPersist (tag : Byte) (payload : List Byte)
  | snapshot (tag : Byte) (payload : List Byte)
  | setAutosnap (tag : Byte) (payload : List Byte)
  | readCounts (tag : Byte) (payload : List Byte)
  | fetch (tag : Byte) (payload : List Byte)
  | changes (tag : Byte) (payload : List Byte)
  | setHoldoff (tag : Byte) (payload : List Byte)
  -- requests on the authority link
  | authStatus (tag : Byte) (payload : List Byte)
  | authReadFace (tag : Byte) (payload : List Byte)
  | claim (tag : Byte) (payload : List Byte)
  | release (tag : Byte) (payload : List Byte)
  -- link events
  | linkByteReceived (link : Link) (byte : Byte) (framingError : Bool)
  | linkFrameTimeout (link : Link)
  | replySent (link : Link) (straps : Straps)
  -- face chain events
  | cycleTimerExpiry
  | chainFrameSent
  | replyWindowExpiry
  | chainByteReceived (byte : Byte)
  | chainReplyGapTimeout
  -- sensor bus events
  | scanTimerExpiry
  | sensorPollEnd (result : PollEnd)
  | sensorPollTimeout
  -- the one-second event and what falls within it
  | oneSecondEvent
  | claimLapse (face : FaceNo)
  | autoSnapshot
  | holdoffExpiry
  -- resets
  | resetPinLow
  | resetPinRelease (straps : Straps)
  | supplyDip
  | supplyOff
  | supplyRecovery (straps : Straps)
deriving DecidableEq, Repr

/-- The kind code of a request on the wire (section 11.5). -/
def RequestKind.code : RequestKind → Byte
  | .ping => 0x01#8 | .status => 0x02#8 | .reset => 0x03#8 | .run => 0x04#8 | .halt => 0x05#8 | .resume => 0x06#8
  | .setTime => 0x10#8 | .setCurfew => 0x11#8 | .setScan => 0x12#8 | .setZone => 0x13#8 | .readZone => 0x14#8
  | .readSensor => 0x15#8 | .setCycle => 0x18#8 | .setRetries => 0x19#8 | .setSpan => 0x1A#8
  | .loadCurve => 0x20#8 | .readCurve => 0x21#8
  | .setFace => 0x28#8 | .enable => 0x29#8 | .disable => 0x2A#8 | .condition => 0x2B#8 | .restore => 0x2C#8
  | .readFace => 0x2D#8 | .setPersist => 0x2E#8
  | .snapshot => 0x30#8 | .setAutosnap => 0x31#8 | .readCounts => 0x32#8
  | .fetch => 0x38#8 | .changes => 0x39#8 | .setHoldoff => 0x3A#8
  | .authStatus => 0x40#8 | .authReadFace => 0x41#8 | .claim => 0x42#8 | .release => 0x43#8

/-- The link that accepts a request (section 11.5): four on the authority link, the others on the control link. -/
def RequestKind.link : RequestKind → Link
  | .authStatus | .authReadFace | .claim | .release => .authority
  | _ => .control

/-- A request as its frame carries it: its kind, its tag and its payload. -/
structure Request where
  kind : RequestKind
  tag : Byte
  payload : List Byte
deriving DecidableEq, Repr

/-- The request a command stands for; an event is none. -/
def Instr.request : Instr → Option Request
  | .ping t p => some ⟨.ping, t, p⟩
  | .status t p => some ⟨.status, t, p⟩
  | .reset t p => some ⟨.reset, t, p⟩
  | .run t p => some ⟨.run, t, p⟩
  | .halt t p => some ⟨.halt, t, p⟩
  | .resume t p => some ⟨.resume, t, p⟩
  | .setTime t p => some ⟨.setTime, t, p⟩
  | .setCurfew t p => some ⟨.setCurfew, t, p⟩
  | .setScan t p => some ⟨.setScan, t, p⟩
  | .setZone t p => some ⟨.setZone, t, p⟩
  | .readZone t p => some ⟨.readZone, t, p⟩
  | .readSensor t p => some ⟨.readSensor, t, p⟩
  | .setCycle t p => some ⟨.setCycle, t, p⟩
  | .setRetries t p => some ⟨.setRetries, t, p⟩
  | .setSpan t p => some ⟨.setSpan, t, p⟩
  | .loadCurve t p => some ⟨.loadCurve, t, p⟩
  | .readCurve t p => some ⟨.readCurve, t, p⟩
  | .setFace t p => some ⟨.setFace, t, p⟩
  | .enable t p => some ⟨.enable, t, p⟩
  | .disable t p => some ⟨.disable, t, p⟩
  | .condition t p => some ⟨.condition, t, p⟩
  | .restore t p => some ⟨.restore, t, p⟩
  | .readFace t p => some ⟨.readFace, t, p⟩
  | .setPersist t p => some ⟨.setPersist, t, p⟩
  | .snapshot t p => some ⟨.snapshot, t, p⟩
  | .setAutosnap t p => some ⟨.setAutosnap, t, p⟩
  | .readCounts t p => some ⟨.readCounts, t, p⟩
  | .fetch t p => some ⟨.fetch, t, p⟩
  | .changes t p => some ⟨.changes, t, p⟩
  | .setHoldoff t p => some ⟨.setHoldoff, t, p⟩
  | .authStatus t p => some ⟨.authStatus, t, p⟩
  | .authReadFace t p => some ⟨.authReadFace, t, p⟩
  | .claim t p => some ⟨.claim, t, p⟩
  | .release t p => some ⟨.release, t, p⟩
  | .linkByteReceived _ _ _ | .linkFrameTimeout _ | .replySent _ _ | .cycleTimerExpiry | .chainFrameSent
  | .replyWindowExpiry | .chainByteReceived _ | .chainReplyGapTimeout | .scanTimerExpiry | .sensorPollEnd _
  | .sensorPollTimeout | .oneSecondEvent | .claimLapse _ | .autoSnapshot | .holdoffExpiry | .resetPinLow
  | .resetPinRelease _ | .supplyDip | .supplyOff | .supplyRecovery _ => none

end Sys2Proof
end

