-- ==== Sys2Proof/WellFormed.lean ====
section
/-! DEFINITION. WellFormed.lean: which commands the outside can give the part. A request's frame has a length byte of 2 to 200
(R167, R172), so its payload has at most 198 bytes; every other operand is a value of its own type. -/

namespace Sys2Proof

/-- A request's payload fits a frame. -/
def Instr.wellFormed (i : Instr) : Bool :=
  match i.request with
  | some r => decide (r.payload.length ≤ Config.maxPayload)
  | none => true

end Sys2Proof
end

