-- ==== Sys2Proof/Decode.lean ====
section
/-! DEFINITION. Decode.lean: the command a table word spells. No row of spec/opcode_table.json gives bits (its "fields" are all
empty), so no word spells a command. The bytes of the links and the chain are decoded in Machine/LinkPort.lean and
Machine/ChainReply.lean, as the events that bring them. -/

namespace Sys2Proof

/-- The command that the word `w` of `nbits` bits spells by the table's bits: none, since no row gives bits. -/
def decodeTableWord (_nbits _w : Nat) : Option Instr := none

end Sys2Proof
end

