-- ==== Sys2Proof/Machine/State.lean ====
section
/-! DEFINITION. Machine/State.lean: every piece of state the spec gives the DL-32, block by block (00_scope.md, section 3), as plain
data, the reasons a step could stop, and the state after a power-on reset (R165). -/

namespace Sys2Proof.Machine

/-! ### Modes, resets and pins (chapter 10) -/

/-- The operating modes (R157). -/
inductive Mode where
  | hold | running | halting | halted
deriving DecidableEq, Repr

/-- The causes of a reset (section 10.3). -/
inductive ResetCause where
  | powerOn | supplyDip | pin | linkRequest
deriving DecidableEq, Repr

/-- R163: the supply is working, has fallen below 2.9 V, or has gone off. -/
inductive Supply where
  | working | dipped | off
deriving DecidableEq, Repr

/-- R163: the RESET pin, the supply, and the cause to be recorded of the reset in progress; the cause is present exactly while a
reset is in progress. -/
structure ResetLine where
  pinLow : Bool
  supply : Supply
  cause : Option ResetCause
deriving DecidableEq, Repr

/-! ### The link ports (chapter 11) -/

/-- The reasons of a REFUSED reply (R169, R172). -/
inductive Reason where
  | unknownKind | badLength | badValue | wrongMode | wrongState
deriving DecidableEq, Repr

/-- What a reply says (R169): DONE with the clamped mark and the reply data, or REFUSED with a reason. -/
inductive Answer where
  | done (clamped : Bool) (data : List Byte)
  | refused (reason : Reason)
deriving DecidableEq, Repr

/-- A reply frame on its way out (R169, R172): the request's kind, the echoed tag, and the answer. -/
structure Reply where
  kind : Byte
  tag : Byte
  answer : Answer
deriving DecidableEq, Repr

/-- R167: a port waits for a start byte, or is receiving a frame; `taken` is what followed the start byte so far. -/
inductive Receiver where
  | waiting
  | receiving (taken : List Byte)
deriving DecidableEq, Repr

/-- A link port (R167, R168): the receive buffer, the reply not yet sent (present exactly while the pending-reply flag is set) and
the link error count, 0 to 255. -/
structure Port where
  receiver : Receiver
  reply : Option Reply
  errors : Nat
deriving DecidableEq, Repr

/-! ### Sensors and zones (chapter 2) -/

/-- A sensor's health (section 2.2). -/
inductive Health where
  | unused | doubtful | good | failed
deriving DecidableEq, Repr

/-- A sensor record (section 2.2). -/
structure Sensor where
  health : Health
  missRun : Nat
  validRun : Nat
  reading : Option Nat
deriving DecidableEq, Repr

/-- The sensors a zone names (R28, R38). -/
structure Naming where
  primary : Option SensorNo
  secondary : Option SensorNo
deriving DecidableEq, Repr

/-- A scan in progress (R28): the naming fixed at its start, the sensor whose read is on the bus, and those still to be polled. -/
structure Scan where
  naming : Table Naming 8
  polling : SensorNo
  todo : List SensorNo
deriving DecidableEq, Repr

/-- What passes on the sensor bus in a read (R173): the start condition, the part's address byte, the sensor's acknowledge, a data byte
from the sensor, the part's acknowledge, its withholding of one, and the stop condition. -/
inductive BusSignal where
  | start
  | address (byte : Byte)
  | sensorAcknowledge
  | data
  | acknowledge
  | noAcknowledge
  | stop
deriving DecidableEq, Repr

/-- Where a zone's estimate comes from (R33). -/
inductive Source where
  | sensors | fallback
deriving DecidableEq, Repr

/-- The word width of a drive code (section 1.5). -/
inductive Width where
  | w8 | w12
deriving DecidableEq, Repr

/-- A zone's configuration (R38). -/
structure ZoneConfig where
  naming : Naming
  fallback : Nat
  rising : Nat
  falling : Nat
  zoneCap : Nat
  curfewCap : Nat
  width : Width
  extension : Nat
  dmax : Nat
deriving DecidableEq, Repr

/-- A zone record (R38): configuration, ambient estimate, source and disagree flag. -/
structure Zone where
  config : ZoneConfig
  ambient : Nat
  source : Source
  disagree : Bool
deriving DecidableEq, Repr

/-! ### Curves (chapter 3) -/

/-- A breakpoint: an ambient level in lux and a luminance in nits (R47). -/
structure Breakpoint where
  x : Nat
  y : Nat
deriving DecidableEq, Repr

/-- A curve of the Curve Store: its live list and its pending slot (R47). -/
structure Curve where
  live : List Breakpoint
  waiting : Option (List Breakpoint)
deriving DecidableEq, Repr

/-! ### Faces (chapters 4 to 6) -/

/-- How the sign operator asks a face to be driven (R79). -/
inductive Conditioning where
  | normal
  | fixed (level : Nat)
  | blank
  | pattern
deriving DecidableEq, Repr

/-- A face's state (chapter 5). -/
inductive FaceState where
  | offline | joining | active | cutoff
deriving DecidableEq, Repr

/-- What a face's IDENTITY declared (R87, R94). -/
structure Capability where
  maxWidth : Width
  photometer : Bool
  strings : Nat
deriving DecidableEq, Repr

/-- A drive code with the width it is expressed in. -/
structure ShownCode where
  code : Nat
  width : Width
deriving DecidableEq, Repr

/-- The face flags of a STATUS reply (R87). -/
structure FaceFlags where
  power : Bool
  thermal : Bool
  door : Bool
deriving DecidableEq, Repr

/-- A face's four counters (R142). -/
structure Counters where
  missed : Nat
  corrupt : Nat
  echo : Nat
  cutoffs : Nat
deriving DecidableEq, Repr

/-- The persistence runs of one fault kind (section 6.3). -/
structure Runs where
  present : Nat
  absent : Nat
deriving DecidableEq, Repr

/-- The configuration part of a face record (R86). -/
structure FaceConfig where
  enabled : Bool
  zone : ZoneNo
  curve : CurveNo
  trim : Nat
  cap : Nat
  fullScale : Nat
  slewUp : Nat
  slewDown : Nat
  proof : Bool
  conditioning : Conditioning
deriving DecidableEq, Repr

/-- The dynamic part of a face record (R87), but for the snapshot counters. -/
structure FaceDynamic where
  state : FaceState
  capability : Option Capability
  commanded : Option Nat
  delivered : Option Nat
  shown : Option ShownCode
  stringsOut : Option Nat
  measured : Option Nat
  flags : FaceFlags
  patternStep : Nat
  runs : Table Runs 8
  asserted : KindSet
  live : Counters
deriving DecidableEq, Repr

/-- A face record: configuration part, dynamic part, and the snapshot counters of R143. -/
structure Face where
  config : FaceConfig
  dyn : FaceDynamic
  snap : Counters
deriving DecidableEq, Repr

/-- The eight fault kinds, in the order of their bits on the wire (R172). -/
inductive FaultKind where
  | noReply | badFrame | echo | strings | thermal | power | overbright | door
deriving DecidableEq, Repr

/-- A fault kind's persistence pair (R115). -/
structure Persistence where
  assert : Nat
  clear : Nat
deriving DecidableEq, Repr

/-! ### Claims (chapter 7) -/

/-- What a claim does to its face (R128). -/
inductive ClaimMode where
  | blank
  | cap (level : Nat)
deriving DecidableEq, Repr

/-- The claim record of a face (R128); `remaining` 0 is held until released. -/
structure Claim where
  mode : ClaimMode
  remaining : Nat
deriving DecidableEq, Repr

/-- Who governs a face's goal (R128). -/
inductive Owner where
  | authority | operator
deriving DecidableEq, Repr

/-! ### Notices (chapter 9) -/

/-- A notice's kind, subject and detail (R148). -/
inductive NoticeBody where
  | restart (cause : ResetCause)
  | mode (mode : Mode)
  | faceFault (face : FaceNo) (asserted : KindSet)
  | faceState (face : FaceNo) (state : FaceState) (restarted : Bool)
  | owner (face : FaceNo) (owner : Owner) (lapsed : Bool)
  | sensor (sensor : SensorNo) (health : Health)
  | zone (zone : ZoneNo) (source : Source) (disagree : Bool)
  | overrun
  | snapshot
deriving DecidableEq, Repr

/-- A notice record (R148). -/
structure Notice where
  body : NoticeBody
  stamp : BitVec 16
deriving DecidableEq, Repr

/-! ### The face chain (chapter 1) -/

/-- A frame the part sends to a face (R11). -/
inductive ChainFrame where
  | level (width : Width) (code : Nat) (proof : Option (BitVec 16))
  | hold
  | ident
deriving DecidableEq, Repr

/-- How an attempt ends (R16). -/
inductive AttemptOutcome where
  | valid | corrupt | silent
deriving DecidableEq, Repr

/-- Where an attempt stands: its frame is being sent, or its reply window of `window` ms is open (R13 to R15). `waits` counts the
WAITs honoured, `expired` says that the window ran out while a reply was arriving, and `reply` holds the bytes after a reply's
start byte once one has begun. -/
inductive Attempt where
  | sending
  | listening (window : Nat) (waits : Nat) (expired : Bool) (reply : Option (List Byte))
deriving DecidableEq, Repr

/-- The slot in hand (R9 to R17): the face, the frame, the commanded level the slot start wrote for a LEVEL frame, the reply
extension, dmax and number of permitted attempts as read at slot start, the outcomes so far, and the attempt under way. -/
structure Slot where
  face : FaceNo
  frame : ChainFrame
  wrote : Option Nat
  extension : Nat
  dmax : Nat
  permitted : Nat
  outcomes : List AttemptOutcome
  attempt : Attempt
deriving DecidableEq, Repr

/-- A cycle in progress (R2, R3): its slot list is `served`, then the face of `slot`, then `todo`. -/
structure Cycle where
  served : List FaceNo
  slot : Slot
  todo : List FaceNo
deriving DecidableEq, Repr

/-- The number of face positions in use (R20). -/
inductive Span where
  | s8 | s16 | s32
deriving DecidableEq, Repr

/-- The part's state. -/
structure State where
  -- Mode Controller
  mode : Mode
  lastCause : ResetCause
  resetLine : ResetLine
  straps : Straps
  -- Control Link Port and Authority Link Port
  control : Port
  authority : Port
  hazard : FaceSet
  lapsed : FaceSet
  restarted : Bool
  -- Sensor Scanner
  scanPeriod : Nat
  scanTimer : Option Nat
  scan : Option Scan
  busEnd : List BusSignal -- what the part sent last of its latest read (R29, R173; log entry 15)
  sensors : Table Sensor 4
  -- Zone Table
  zones : Table Zone 8
  -- Time base
  seconds : BitVec 16
  dayClock : Option Nat
  curfewStart : Nat
  curfewEnd : Nat
  -- Curve Store
  curves : Table Curve 8
  -- Face Table
  faces : Table Face 32
  -- Claim Table
  claims : Table (Option Claim) 32
  -- Chain Controller
  period : Nat
  cycleTimer : Option Nat
  overrunWaiting : Bool
  cycle : Option Cycle
  retries : Nat
  span : Span
  proofGen : BitVec 15
  cycleCount : BitVec 32
  -- Fault Monitor
  persist : Table Persistence 8
  -- Counter Bank (the per-face counters stand in the face records)
  retriesSent : Nat
  overruns : Nat
  snapRetries : Nat
  snapStamp : Option (BitVec 16)
  autosnap : Bool
  autoCount : Nat
  -- Notice Queue
  queue : List Notice
  changeSet : FaceSet
  otherLost : Bool
  holdoff : Nat
  holdoffCount : Nat
  -- the model's own: how many free choices the steps have taken, and the commands waiting
  freeChoices : Nat
  pending : List Instr
deriving DecidableEq, Repr

/-- The faults of a step. The spec stops the part on no command, so there is none: no meaning raises a fault. -/
inductive Fault where
deriving DecidableEq, Repr

/-- The refusals of a step. -/
inductive Refusal where
  /-- Raised by exec's arm of a command that has no meaning yet, by its name in the table (safe: the model stops). No arm raises it
  in this model. -/
  | notModelled (mnemonic : String)
deriving DecidableEq, Repr

/-! ### Reset values -/

/-- Counters at 0. -/
def Counters.zero : Counters := ⟨0, 0, 0, 0⟩

/-- The configuration of a face after a cold reset (R86). -/
def FaceConfig.cold : FaceConfig :=
  { enabled := false, zone := 0, curve := 0, trim := 256, cap := 7500, fullScale := 7500, slewUp := 200, slewDown := 400,
    proof := false, conditioning := .normal }

/-- The dynamic part of a face after any reset and after going OFFLINE, in the state given (R87). -/
def FaceDynamic.cleared (state : FaceState) : FaceDynamic :=
  { state := state, capability := none, commanded := none, delivered := none, shown := none, stringsOut := none,
    measured := none, flags := ⟨false, false, false⟩, patternStep := 0, runs := Table.replicate 8 ⟨0, 0⟩, asserted := 0#8,
    live := Counters.zero }

/-- A sensor after any reset (R37). -/
def Sensor.cleared : Sensor := ⟨.unused, 0, 0, none⟩

/-- The configuration of a zone after a cold reset (R38), its width from the strap (R23). -/
def ZoneConfig.cold (w : Width) : ZoneConfig :=
  { naming := ⟨none, none⟩, fallback := 400, rising := 2, falling := 12, zoneCap := 10000, curfewCap := 350, width := w,
    extension := 0, dmax := 2 }

/-- R37: a zone after any reset, with the configuration the reset leaves. -/
def Zone.cleared (c : ZoneConfig) : Zone := ⟨c, c.fallback, .fallback, false⟩

/-- R48: the flat list of a cold reset. -/
def Curve.cold : Curve := ⟨[⟨0, 300⟩, ⟨100000, 300⟩], none⟩

/-- R115: the persistence settings of a cold reset, in the order of the kinds' bits. -/
def Persistence.cold : Table Persistence 8 :=
  ⟨[⟨3, 2⟩, ⟨3, 2⟩, ⟨2, 2⟩, ⟨3, 3⟩, ⟨2, 5⟩, ⟨2, 2⟩, ⟨2, 4⟩, ⟨1, 1⟩], rfl⟩

/-- A link port after any reset (R168). -/
def Port.cleared : Port := ⟨.waiting, none, 0⟩

/-- The part right after a power-on reset has completed with both straps low (R165; log entry 1): the cycle that the reset starts at
once has been started, found no face and ended (R174), so the cycle count is 1. -/
def State.reset : State :=
  { mode := .hold
    lastCause := .powerOn
    resetLine := ⟨false, .working, none⟩
    straps := ⟨false, false⟩
    control := Port.cleared
    authority := Port.cleared
    hazard := 0#32
    lapsed := 0#32
    restarted := true
    scanPeriod := 250
    scanTimer := some 250
    scan := none
    busEnd := []
    sensors := Table.replicate 4 Sensor.cleared
    zones := Table.replicate 8 (Zone.cleared (ZoneConfig.cold .w8))
    seconds := 0#16
    dayClock := none
    curfewStart := 0
    curfewEnd := 0
    curves := Table.replicate 8 Curve.cold
    faces := Table.replicate 32 ⟨FaceConfig.cold, FaceDynamic.cleared .offline, Counters.zero⟩
    claims := Table.replicate 32 none
    period := 200
    cycleTimer := some 200
    overrunWaiting := false
    cycle := none
    retries := 1
    span := .s32
    proofGen := 0x7FFF#15
    cycleCount := 1#32
    persist := Persistence.cold
    retriesSent := 0
    overruns := 0
    snapRetries := 0
    snapStamp := none
    autosnap := false
    autoCount := 0
    queue := [⟨.restart .powerOn, 0#16⟩]
    changeSet := 0#32
    otherLost := false
    holdoff := 0
    holdoffCount := 0
    freeChoices := 0
    pending := [] }

end Sys2Proof.Machine
end

