-- ==== Sys2Proof/Machine/Ops.lean ====
section
/-! DEFINITION. Machine/Ops.lean: the named operations over the part's records: sets of faces and of fault kinds, the span, the
face, zone and sensor records, the notice queue, the counters, and the state changes several commands share (a face entering
CUTOFF, a face going OFFLINE). -/

namespace Sys2Proof.Machine

/-! ### Numbers -/

/-- A quantity brought onto its range (00_scope.md, section 6). -/
def clamp (lo hi v : Nat) : Nat := max lo (min v hi)

/-- R142: an increment that stops at the counter's maximum. -/
def bump (maximum v : Nat) : Nat := min maximum (v + 1)

/-- Division rounded up, for a divisor above 0. -/
def ceilDiv (a b : Nat) : Nat := (a + b - 1) / b

/-! ### Faces and sets of faces -/

/-- The face numbers in ascending order. -/
def allFaces : List FaceNo := List.finRange 32
def allZones : List ZoneNo := List.finRange 8
def allSensors : List SensorNo := List.finRange 4

/-- Whether a face is a member of a set. -/
def faceIn (s : FaceSet) (i : FaceNo) : Bool := s.getLsbD i.val
def faceInsert (s : FaceSet) (i : FaceNo) : FaceSet := s ||| (1#32 <<< i.val)
def faceErase (s : FaceSet) (i : FaceNo) : FaceSet := s &&& ~~~(1#32 <<< i.val)

/-- The set of the faces that `p` holds of. -/
def faceSetOf (p : FaceNo → Bool) : FaceSet :=
  allFaces.foldl (fun s i => if p i then faceInsert s i else s) 0#32

/-- The number of faces in a set. -/
def faceCount (s : FaceSet) : Nat := (allFaces.filter (faceIn s)).length

/-- The number of face positions a span has in use (R20). -/
def Span.size : Span → Nat
  | .s8 => 8
  | .s16 => 16
  | .s32 => 32

/-- R20: a face number of a request, reduced modulo the span. -/
def Span.fold (n : Span) (face : Nat) : FaceNo :=
  ⟨face % n.size, by cases n <;> simp only [Span.size] <;> omega⟩

/-- R20: a face set of a request, each member reduced modulo the span. -/
def Span.foldSet (n : Span) (s : FaceSet) : FaceSet :=
  faceSetOf (fun j => allFaces.any (fun i => faceIn s i && (n.fold i.val == j)))

/-- Whether a face lies below the span. -/
def Span.covers (n : Span) (i : FaceNo) : Bool := decide (i.val < n.size)

/-! ### Fault kinds -/

/-- The number of a fault kind, which is its bit in a set of fault kinds (R172). -/
def FaultKind.no : FaultKind → Fin 8
  | .noReply => 0
  | .badFrame => 1
  | .echo => 2
  | .strings => 3
  | .thermal => 4
  | .power => 5
  | .overbright => 6
  | .door => 7

/-- The fault kinds in the order of their numbers. -/
def allKinds : List FaultKind := [.noReply, .badFrame, .echo, .strings, .thermal, .power, .overbright, .door]

def kindIn (s : KindSet) (k : FaultKind) : Bool := s.getLsbD k.no.val
def kindInsert (s : KindSet) (k : FaultKind) : KindSet := s ||| (1#8 <<< k.no.val)
def kindErase (s : KindSet) (k : FaultKind) : KindSet := s &&& ~~~(1#8 <<< k.no.val)

/-! ### Reading the state -/

/-- R163: a reset is in progress. -/
def State.resetting (s : State) : Bool := s.resetLine.cause.isSome

/-- The port of a link. -/
def State.port (s : State) : Link → Port
  | .control => s.control
  | .authority => s.authority

/-- The state with a link's port replaced. -/
def State.setPort (s : State) (l : Link) (p : Port) : State :=
  match l with
  | .control => { s with control := p }
  | .authority => { s with authority := p }

/-- The zone record of a face's zone. -/
def State.zoneOf (s : State) (i : FaceNo) : Zone := s.zones.get (s.faces.get i).config.zone

/-- R128: AUTHORITY exactly while a claim record exists. -/
def State.owner (s : State) (i : FaceNo) : Owner :=
  if (s.claims.get i).isSome then .authority else .operator

/-- R128: whether the face holds a claim in BLANK mode. -/
def State.blankClaimed (s : State) (i : FaceNo) : Bool :=
  match s.claims.get i with
  | some ⟨.blank, _⟩ => true
  | _ => false

/-- The set of faces that hold a claim record (R139). -/
def State.claimedSet (s : State) : FaceSet := faceSetOf (fun i => (s.claims.get i).isSome)

/-! ### Replacing a record -/

def State.setFace (s : State) (i : FaceNo) (f : Face) : State := { s with faces := s.faces.set i f }

/-- The state with a face's configuration part replaced. -/
def State.setFaceConfig (s : State) (i : FaceNo) (c : FaceConfig) : State :=
  s.setFace i { s.faces.get i with config := c }

/-- The state with a face's dynamic part replaced. -/
def State.setFaceDyn (s : State) (i : FaceNo) (d : FaceDynamic) : State :=
  s.setFace i { s.faces.get i with dyn := d }

def State.setSensor (s : State) (n : SensorNo) (x : Sensor) : State := { s with sensors := s.sensors.set n x }
def State.setZone (s : State) (n : ZoneNo) (z : Zone) : State := { s with zones := s.zones.set n z }
def State.setClaim (s : State) (i : FaceNo) (c : Option Claim) : State := { s with claims := s.claims.set i c }

/-- A change made face by face, in ascending order of face number. -/
def State.eachFace (s : State) (f : FaceNo → State → State) : State := allFaces.foldl (fun t i => f i t) s

/-! ### The notice queue (R149) -/

/-- The number of a notice's kind in R148's table. -/
def NoticeBody.kindNo : NoticeBody → Nat
  | .restart _ => 0
  | .mode _ => 1
  | .faceFault _ _ => 2
  | .faceState _ _ _ => 3
  | .owner _ _ _ => 4
  | .sensor _ _ => 5
  | .zone _ _ _ => 6
  | .overrun => 7
  | .snapshot => 8

/-- A notice's subject; absent for the kinds that have none (R148). -/
def NoticeBody.subject : NoticeBody → Option Nat
  | .faceFault f _ | .faceState f _ _ | .owner f _ _ => some f.val
  | .sensor n _ => some n.val
  | .zone z _ _ => some z.val
  | .restart _ | .mode _ | .overrun | .snapshot => none

/-- The face a notice is about, for the kinds whose subject is a face. -/
def NoticeBody.face : NoticeBody → Option FaceNo
  | .faceFault f _ | .faceState f _ _ | .owner f _ _ => some f
  | .sensor _ _ | .zone _ _ _ | .restart _ | .mode _ | .overrun | .snapshot => none

/-- R149: two notices of the same kind and the same subject, both absent counting as the same. -/
def NoticeBody.sameThing (a b : NoticeBody) : Bool := (a.kindNo == b.kindNo) && (a.subject == b.subject)

/-- R149, step 1: the queue with the entry about the same thing replaced where it stands, if there is one. -/
def replaceNotice (n : Notice) : List Notice → Option (List Notice)
  | [] => none
  | m :: ms => if m.body.sameThing n.body then some (n :: ms) else (replaceNotice n ms).map (m :: ·)

/-- R149: a notice posted with the stamp of the seconds counter: it replaces the entry about the same thing, or is appended, or
overflows to the face change set (R150) or the other-lost flag. -/
def State.post (s : State) (b : NoticeBody) : State :=
  match replaceNotice ⟨b, s.seconds⟩ s.queue with
  | some q => { s with queue := q }
  | none =>
    if s.queue.length < Config.queueDepth then { s with queue := s.queue ++ [⟨b, s.seconds⟩] }
    else
      match b.face with
      | some f => { s with changeSet := faceInsert s.changeSet f }
      | none => { s with otherLost := true }

/-! ### Face life shared by several commands -/

/-- R98: a face enters CUTOFF: its state, its CUTOFFS counter, the hazard set and the FACE_STATE notice. -/
def State.enterCutoff (s : State) (i : FaceNo) : State :=
  let d := (s.faces.get i).dyn
  let s1 := s.setFaceDyn i { d with state := .cutoff, live := { d.live with cutoffs := bump 255 d.live.cutoffs } }
  { s1 with hazard := faceInsert s1.hazard i }.post (.faceState i .cutoff false)

/-- R102: a face goes OFFLINE: its dynamic part is cleared, its snapshot counters are kept, and it leaves the change set. -/
def State.goOffline (s : State) (i : FaceNo) : State :=
  let s1 := s.setFaceDyn i (FaceDynamic.cleared .offline)
  { s1 with changeSet := faceErase s1.changeSet i }

/-- R99, R159, R161: as the part leaves HOLD, every ACTIVE face with OVERBRIGHT asserted enters CUTOFF and its commanded level
becomes 0. -/
def State.leaveHoldFace (i : FaceNo) (s : State) : State :=
  let d := (s.faces.get i).dyn
  if d.state = .active ∧ kindIn d.asserted .overbright = true then
    (s.setFaceDyn i { d with commanded := some 0 }).enterCutoff i
  else s

def State.leaveHold (s : State) : State := s.eachFace State.leaveHoldFace

/-- R158: a change of mode and its MODE notice. -/
def State.changeMode (s : State) (m : Mode) : State := { s with mode := m }.post (.mode m)

/-! ### Counters (R142, R143) -/

/-- R143: the snapshot of the Counter Bank. -/
def State.takeSnapshot (s : State) : State :=
  { s with
    faces := s.faces.map (fun f => { f with snap := f.dyn.live, dyn := { f.dyn with live := Counters.zero } })
    snapRetries := s.retriesSent
    snapStamp := some s.seconds
    retriesSent := 0 }

/-! ### The frame check (R167) -/

/-- One bit of the CRC with the generator x^16 + x^12 + x^5 + 1. -/
def crcBit (c : BitVec 16) : BitVec 16 := if c.getLsbD 15 then (c <<< 1) ^^^ 0x1021#16 else c <<< 1

/-- One byte of the CRC, most significant bit first, nothing reflected. -/
def crcByte (c : BitVec 16) (b : Byte) : BitVec 16 :=
  crcBit (crcBit (crcBit (crcBit (crcBit (crcBit (crcBit (crcBit (c ^^^ (b.setWidth 16 <<< 8)))))))))

/-- R167: the CRC of the links and of the chain, from FFFF hex, with no final inversion. -/
def crcOf (bytes : List Byte) : BitVec 16 := bytes.foldl crcByte 0xFFFF#16

/-- The two CRC bytes, high byte first. -/
def crcBytes (c : BitVec 16) : List Byte := [(c >>> 8).setWidth 8, c.setWidth 8]

end Sys2Proof.Machine
end

