-- ==== Sys2Proof/Machine/Operands.lean ====
section
/-! DEFINITION. Machine/Operands.lean: how the bytes of a payload are read as a request's fields, and how a reply's fields are
written as bytes (R172): most significant byte first, presence masks, values that may be absent, enumerated values. -/

namespace Sys2Proof.Machine

/-! ### Reading a request -/

/-- A multi-byte field, most significant byte first. -/
def readBytes (bs : List Byte) : Nat := bs.foldl (fun n b => n * 256 + b.toNat) 0

/-- A face set: 4 bytes, bit k set when face k is a member. -/
def readFaceSet (a b c d : Byte) : FaceSet := BitVec.ofNat 32 (readBytes [a, b, c, d])

/-- The fields marked present by a mask whose least significant bit marks the first field; `sizes` gives each field's bytes. None
when the bytes do not agree with the mask. -/
def readFields (mask : Nat) : List Nat → List Byte → Option (List (Option Nat))
  | [], [] => some []
  | [], _ :: _ => none
  | n :: ns, bs =>
    if mask % 2 = 1 then
      if bs.length < n then none
      else (readFields (mask / 2) ns (bs.drop n)).map (some (readBytes (bs.take n)) :: ·)
    else (readFields (mask / 2) ns bs).map (none :: ·)

/-- The breakpoints of a LOAD_CURVE payload, 3 bytes of lux and 2 bytes of nits each; none when the bytes do not come out even. -/
def readBreakpoints : Nat → List Byte → Option (List Breakpoint)
  | 0, [] => some []
  | n + 1, a :: b :: c :: d :: e :: rest =>
    (readBreakpoints n rest).map (⟨readBytes [a, b, c], readBytes [d, e]⟩ :: ·)
  | _, _ => none

/-- A zone number of a request (R39, R41); not folded. -/
def readZoneNo (b : Byte) : Option ZoneNo := if h : b.toNat < 8 then some ⟨b.toNat, h⟩ else none
def readSensorNo (b : Byte) : Option SensorNo := if h : b.toNat < 4 then some ⟨b.toNat, h⟩ else none
def readCurveNo (b : Byte) : Option CurveNo := if h : b.toNat < 8 then some ⟨b.toNat, h⟩ else none

/-- A width of a SET_ZONE request: 8 or 12 (R23). -/
def readWidth : Nat → Option Width
  | 8 => some .w8
  | 12 => some .w12
  | _ => none

/-- A sensor code of a SET_ZONE request (R39): 0 to 3, or FF hex for none. -/
def readSensorCode (v : Nat) : Option (Option SensorNo) :=
  if v = 0xFF then some none
  else if h : v < 4 then some (some ⟨v, h⟩)
  else none

/-- A setting of two values: 1 for on, 0 for off (R172). -/
def readOnOff : Nat → Option Bool
  | 0 => some false
  | 1 => some true
  | _ => none

/-- A fault kind's number (R172). -/
def readKind (b : Byte) : Option FaultKind := allKinds[b.toNat]?

/-- A conditioning code with the level that FIXED reads (R79, R80), the level clamped. -/
def readConditioning (code : Byte) (level : Nat) : Option Conditioning :=
  match code.toNat with
  | 0 => some .normal
  | 1 => some (.fixed (clamp 0 10000 level))
  | 2 => some .blank
  | 3 => some .pattern
  | _ => none

/-- A claim's mode code with the cap level that CAP reads (R128, R129), the level clamped. -/
def readClaimMode (code : Byte) (level : Nat) : Option ClaimMode :=
  match code.toNat with
  | 0 => some .blank
  | 1 => some (.cap (clamp 0 10000 level))
  | _ => none

/-! ### Writing a reply -/

def bytes1 (v : Nat) : List Byte := [BitVec.ofNat 8 v]
def bytes2 (v : Nat) : List Byte := [BitVec.ofNat 8 (v / 256), BitVec.ofNat 8 v]
def bytes3 (v : Nat) : List Byte := [BitVec.ofNat 8 (v / 65536), BitVec.ofNat 8 (v / 256), BitVec.ofNat 8 v]
def bytes4 (v : Nat) : List Byte :=
  [BitVec.ofNat 8 (v / 16777216), BitVec.ofNat 8 (v / 65536), BitVec.ofNat 8 (v / 256), BitVec.ofNat 8 v]

/-- A flag, mark or setting of two values. -/
def byteFlag (b : Bool) : List Byte := [if b then 1#8 else 0#8]

/-- A value that may be absent: 0 and `size` zero bytes, or 1 and the value. -/
def byteOption {α : Type} (size : Nat) (f : α → List Byte) : Option α → List Byte
  | none => 0#8 :: List.replicate size 0#8
  | some a => 1#8 :: f a

def byteFaceSet (s : FaceSet) : List Byte := bytes4 s.toNat
def byteWidth : Width → List Byte
  | .w8 => bytes1 8
  | .w12 => bytes1 12
def byteSensorCode : Option SensorNo → List Byte
  | none => [0xFF#8]
  | some n => bytes1 n.val

/-! Enumerated values, numbered from 0 in the order of their definition (R172; the orders log entry 4 names). -/

def Mode.no : Mode → Nat
  | .hold => 0 | .running => 1 | .halting => 2 | .halted => 3
def ResetCause.no : ResetCause → Nat
  | .powerOn => 0 | .supplyDip => 1 | .pin => 2 | .linkRequest => 3
def Health.no : Health → Nat
  | .unused => 0 | .doubtful => 1 | .good => 2 | .failed => 3
def Source.no : Source → Nat
  | .sensors => 0 | .fallback => 1
def FaceState.no : FaceState → Nat
  | .offline => 0 | .joining => 1 | .active => 2 | .cutoff => 3
def Owner.no : Owner → Nat
  | .authority => 0 | .operator => 1
def Reason.no : Reason → Nat
  | .unknownKind => 1 | .badLength => 2 | .badValue => 3 | .wrongMode => 4 | .wrongState => 5

/-- A conditioning: its code, and the level that is absent but with FIXED. -/
def byteConditioning : Conditioning → List Byte
  | .normal => bytes1 0 ++ byteOption 2 bytes2 none
  | .fixed v => bytes1 1 ++ byteOption 2 bytes2 (some v)
  | .blank => bytes1 2 ++ byteOption 2 bytes2 none
  | .pattern => bytes1 3 ++ byteOption 2 bytes2 none

/-- A claim's mode: its code, and the cap level that is absent with BLANK. -/
def byteClaimMode : ClaimMode → List Byte
  | .blank => bytes1 0 ++ byteOption 2 bytes2 none
  | .cap v => bytes1 1 ++ byteOption 2 bytes2 (some v)

def byteClaim (c : Claim) : List Byte := byteClaimMode c.mode ++ bytes3 c.remaining

/-- A zone's configuration in the order of R38's table. -/
def byteZoneConfig (c : ZoneConfig) : List Byte :=
  byteSensorCode c.naming.primary ++ byteSensorCode c.naming.secondary ++ bytes3 c.fallback ++ bytes1 c.rising ++ bytes1 c.falling
    ++ bytes2 c.zoneCap ++ bytes2 c.curfewCap ++ byteWidth c.width ++ bytes1 c.extension ++ bytes1 c.dmax

/-- A face's configuration in the order of R86's table. -/
def byteFaceConfig (c : FaceConfig) : List Byte :=
  byteFlag c.enabled ++ bytes1 c.zone.val ++ bytes1 c.curve.val ++ bytes2 c.trim ++ bytes2 c.cap ++ bytes2 c.fullScale
    ++ bytes2 c.slewUp ++ bytes2 c.slewDown ++ byteFlag c.proof ++ byteConditioning c.conditioning

def byteCapability (c : Capability) : List Byte := byteWidth c.maxWidth ++ byteFlag c.photometer ++ bytes1 c.strings
def byteShown (c : ShownCode) : List Byte := bytes2 c.code ++ byteWidth c.width
def byteFaceFlags (f : FaceFlags) : List Byte := byteFlag f.power ++ byteFlag f.thermal ++ byteFlag f.door
def byteBreakpoint (p : Breakpoint) : List Byte := bytes3 p.x ++ bytes2 p.y
def byteRuns (r : Runs) : List Byte := bytes1 r.present ++ bytes1 r.absent

/-- The two detail bytes of a notice entry (R172). -/
def NoticeBody.detail : NoticeBody → List Byte
  | .restart c => bytes1 c.no ++ [0#8]
  | .mode m => bytes1 m.no ++ [0#8]
  | .faceFault _ a => [a, 0#8]
  | .faceState _ st r => bytes1 st.no ++ byteFlag r
  | .owner _ o l => bytes1 o.no ++ byteFlag l
  | .sensor _ h => bytes1 h.no ++ [0#8]
  | .zone _ src d => bytes1 src.no ++ byteFlag d
  | .overrun => [0#8, 0#8]
  | .snapshot => [0#8, 0#8]

/-- A notice entry of a FETCH reply: 7 bytes (R172). -/
def byteNotice (n : Notice) : List Byte :=
  bytes1 n.body.kindNo ++ byteOption 1 bytes1 n.body.subject ++ n.body.detail ++ bytes2 n.stamp.toNat

/-! ### The frames on the wire (R172, R173) -/

/-- The bytes of a link frame with this kind, tag and payload. -/
def linkFrame (kind tag : Byte) (payload : List Byte) : List Byte :=
  let body := bytes1 (payload.length + 2) ++ [kind, tag] ++ payload
  Config.linkStart :: body ++ crcBytes (crcOf body)

/-- The bytes of a reply: DONE is kind 80 hex, REFUSED 81 hex (R172). Bits 1 to 7 of a DONE's flags byte, which R172 gives no meaning,
are sent as 0 (log entry 4). -/
def Reply.frame (r : Reply) : List Byte :=
  match r.answer with
  | .done clamped data => linkFrame 0x80#8 r.tag (r.kind :: byteFlag clamped ++ data)
  | .refused reason => linkFrame 0x81#8 r.tag (r.kind :: bytes1 reason.no)

/-- The kind and payload of a chain frame (R173). Bits 2 to 7 of a LEVEL's flags byte, which R173 gives no meaning, are sent as 0 (log
entry 4). -/
def ChainFrame.body : ChainFrame → List Byte
  | .level w code none => [0x01#8, (if w = .w12 then 1#8 else 0#8)] ++ bytes2 code
  | .level w code (some p) => [0x01#8, (if w = .w12 then 3#8 else 2#8)] ++ bytes2 code ++ bytes2 p.toNat
  | .hold => [0x02#8]
  | .ident => [0x03#8]

/-- The bytes of a chain frame to a face (R11, R173); every retry of a slot sends the same. -/
def ChainFrame.bytes (f : ChainFrame) (face : FaceNo) : List Byte :=
  let body := bytes1 face.val ++ f.body
  Config.chainStart :: body ++ crcBytes (crcOf body)

end Sys2Proof.Machine
end

