-- ==== Sys2Proof/Machine/Flags.lean ====
section
/-! DEFINITION. Machine/Flags.lean: the lines and tests that follow the state directly: ATTN (R154), AATTN (R138), the chain
and its driver enable (section 11.7), the sensor bus (R29, R173), the curfew test (R46) and the changes mark of a FETCH reply (R151). -/

namespace Sys2Proof.Machine

/-- R154: ATTN is asserted while the hold-off count is 0 and something waits; never while a reset is in progress. -/
def State.attn (s : State) : Bool :=
  !s.resetting && (s.holdoffCount == 0) && (!s.queue.isEmpty || s.changeSet != 0#32 || s.otherLost)

/-- R138: AATTN is asserted while the hazard set, the lapsed set or the restarted flag has something to collect; never while a
reset is in progress. -/
def State.aattn (s : State) : Bool :=
  !s.resetting && (s.hazard != 0#32 || s.lapsed != 0#32 || s.restarted)

/-- Section 11.7: FDE is high only while the part sends on the chain. -/
def State.fde (s : State) : Bool :=
  match s.cycle with
  | some c => c.slot.attempt == .sending
  | none => false

/-- R11: the frame on the chain while the part sends. -/
def State.chainOut (s : State) : Option (List Byte) :=
  match s.cycle with
  | some c => if c.slot.attempt = .sending then some (c.slot.frame.bytes c.slot.face) else none
  | none => none

/-- R29: the 7-bit address of the sensor whose read is on the bus. -/
def State.sensorAddress (s : State) : Option Nat := s.scan.map (fun c => 0x28 + c.polling.val)

/-- R173: the address byte of a read: the 7-bit address, then the read bit as the least significant bit (log entry 15). -/
def addressByte (n : SensorNo) : Byte := BitVec.ofNat 8 (2 * (0x28 + n.val) + 1)

/-- R173: a read that ends as a valid read. The part acknowledges the first two data bytes and not the third. -/
def sensorRead (n : SensorNo) : List BusSignal :=
  [.start, .address (addressByte n), .sensorAcknowledge, .data, .acknowledge, .data, .acknowledge, .data, .noAcknowledge, .stop]

/-- R29, R173: the read under way on the sensor bus, as it runs while the sensor answers. -/
def State.sensorBus (s : State) : Option (List BusSignal) := s.scan.map (fun c => sensorRead c.polling)

/-- R46: whether curfew is in force for a day clock and a window. -/
def curfewTest (dayClock : Option Nat) (start stop : Nat) : Bool :=
  match dayClock with
  | none => true
  | some t =>
    if start < stop then decide (start ≤ t ∧ t < stop)
    else if stop < start then decide (start ≤ t ∨ t < stop)
    else false

def State.curfew (s : State) : Bool := curfewTest s.dayClock s.curfewStart s.curfewEnd

/-- R151: the changes mark. -/
def State.changesMark (s : State) : Bool := s.changeSet != 0#32 || s.otherLost

/-- R168: a port's pending-reply flag. -/
def Port.pendingReply (p : Port) : Bool := p.reply.isSome

end Sys2Proof.Machine
end

