-- ==== Sys2Proof/Machine/Ambient.lean ====
section
/-! DEFINITION. Machine/Ambient.lean: the Sensor Scanner and the zone update (chapter 2). -/

namespace Sys2Proof.Machine

/-! ### Sensor health (R28 to R31, R36) -/

/-- A sensor record replaced; a change of health posts a SENSOR notice (R36). -/
def State.changeSensor (s : State) (n : SensorNo) (x : Sensor) : State :=
  let t := s.setSensor n x
  if x.health = (s.sensors.get n).health then t else t.post (.sensor n x.health)

/-- R30: a valid read's effect on a sensor record; the reading is stored whatever the health (R29). -/
def Sensor.validRead (x : Sensor) (lux : Nat) : Sensor :=
  match x.health with
  | .doubtful => ⟨.good, 0, 0, some lux⟩
  | .failed => if 2 ≤ x.validRun + 1 then ⟨.good, 0, 0, some lux⟩ else ⟨.failed, x.missRun, x.validRun + 1, some lux⟩
  | .good | .unused => { x with reading := some lux }

/-- R31: a failed read's effect on a sensor record. -/
def Sensor.failedRead (x : Sensor) : Sensor :=
  match x.health with
  | .good => ⟨.doubtful, 1, 0, x.reading⟩
  | .doubtful => if 4 ≤ x.missRun + 1 then ⟨.failed, 4, 0, x.reading⟩ else { x with missRun := x.missRun + 1 }
  | .failed => ⟨.failed, 4, 0, x.reading⟩
  | .unused => x

/-- R29, R173: the reading of the three data bytes, most significant first: FFFFFF hex and anything else above 100,000 read as
100,000. -/
def luxOf (high middle low : Byte) : Nat := min (readBytes [high, middle, low]) 100000

/-! ### The zone update (R33 to R36) -/

/-- R33: the distinct sensors a zone names. -/
def Naming.sensors (n : Naming) : List SensorNo :=
  match n.primary, n.secondary with
  | none, none => []
  | some a, none => [a]
  | none, some b => [b]
  | some a, some b => if a = b then [a] else [a, b]

/-- The last readings of the GOOD sensors among those named. -/
def State.goodReadings (s : State) (n : Naming) : List Nat :=
  n.sensors.filterMap (fun k => if (s.sensors.get k).health = .good then (s.sensors.get k).reading else none)

/-- R34: the estimate's step toward the sample. -/
def filterStep (a sample falling rising : Nat) : Nat :=
  if sample < a then a - ceilDiv ((a - sample) * falling) 16
  else if a < sample then
    if 1 ≤ (sample - a) * rising / 16 then a + (sample - a) * rising / 16 else a + 1
  else a

/-- R35: the disagree flag from the readings of the zone's GOOD sensors. -/
def disagreeTest : List Nat → Bool
  | [a, b] => decide (4 * min a b + 50 < max a b)
  | _ => false

/-- R33 to R35: a zone record after an update with the readings of its GOOD sensors. -/
def Zone.update (z : Zone) (readings : List Nat) : Zone :=
  let chosen : Nat × Source := match readings with
    | [] => (z.config.fallback, .fallback)
    | r :: rs => (rs.foldl min r, .sensors)
  { z with
    ambient := filterStep z.ambient chosen.1 z.config.falling z.config.rising
    source := chosen.2
    disagree := disagreeTest readings }

/-- R32, R36: one zone's update and its ZONE notice, if one is due. -/
def State.updateZone (naming : Table Naming 8) (n : ZoneNo) (s : State) : State :=
  let z := s.zones.get n
  let z' := z.update (s.goodReadings (naming.get n))
  let t := s.setZone n z'
  if z'.source = z.source ∧ z'.disagree = z.disagree then t else t.post (.zone n z'.source z'.disagree)

/-- R32: scan completion: the zones are updated in ascending order. -/
def State.completeScan (s : State) (naming : Table Naming 8) : State :=
  allZones.foldl (fun t n => t.updateZone naming n) { s with scan := none }

/-! ### The scan (R27, R28) -/

/-- Whether a naming names a sensor. -/
def names (naming : Table Naming 8) (n : SensorNo) : Bool :=
  allZones.any (fun z => (naming.get z).primary == some n || (naming.get z).secondary == some n)

/-- R28: the naming's effect on one sensor record. -/
def State.nameSensor (naming : Table Naming 8) (n : SensorNo) (s : State) : State :=
  if names naming n then
    if (s.sensors.get n).health = .unused then s.changeSensor n ⟨.doubtful, 0, 0, none⟩ else s
  else if (s.sensors.get n).health = .unused then s
  else s.changeSensor n ⟨.unused, 0, 0, none⟩

/-- R28: after the naming has acted, the first named sensor is polled, or the scan completes at once. -/
def State.pollFrom (s : State) (naming : Table Naming 8) : List SensorNo → State
  | [] => s.completeScan naming
  | n :: todo => { s with scan := some ⟨naming, n, todo⟩ }

/-- R28: a scan starts. -/
def State.startScan (s : State) : State :=
  let naming := s.zones.map (fun z => z.config.naming)
  (allSensors.foldl (fun t n => t.nameSensor naming n) s).pollFrom naming (allSensors.filter (names naming))

/-- R173: how the part ends a valid read: it does not acknowledge the third byte, and sends a stop condition. -/
def validEnd : List BusSignal := [.noAcknowledge, .stop]

/-- R29: how the part ends a read not complete at the 5 ms mark: it sends a stop condition, which releases the bus. -/
def incompleteEnd : List BusSignal := [.stop]

/-- How the part ends a read whose address was not acknowledged, of which the manual is silent: with a stop condition (log entry 15). -/
def unacknowledgedEnd : List BusSignal := [.stop]

/-- R29: a poll has ended with a reading or without one, the part having sent `signals` to end it; the next poll or the scan completion
follows (R28, R32). -/
def State.endPoll (s : State) (c : Scan) (signals : List BusSignal) (reading : Option Nat) : State :=
  let x := s.sensors.get c.polling
  let x' := match reading with
    | some lux => x.validRead lux
    | none => x.failedRead
  ({ s with busEnd := signals }.changeSensor c.polling x').pollFrom c.naming c.todo

/-- SCAN_TIMER_EXPIRY: the timer is restarted with the stored period and a scan starts (R27). The timer stands still only in a
reset (log entry 3). -/
def execScanTimerExpiry (s : State) : Host.Outcome State Fault Refusal :=
  .next (
    if s.scanTimer.isNone || s.resetting then s
    else { s with scanTimer := some s.scanPeriod }.startScan)

/-- SENSOR_POLL_END: the read on the bus ends as a valid read or as one that was not acknowledged (R29). -/
def execSensorPollEnd (result : PollEnd) (s : State) : Host.Outcome State Fault Refusal :=
  .next (
    match s.scan with
    | some c =>
      match result with
      | .valid high middle low => s.endPoll c validEnd (some (luxOf high middle low))
      | .unacknowledged => s.endPoll c unacknowledgedEnd none
    | none => s)

/-- SENSOR_POLL_TIMEOUT: the read is not complete 5 ms after its start and ends as a failed read; the part sends a stop condition and
releases the bus before the next poll starts (R29). -/
def execSensorPollTimeout (s : State) : Host.Outcome State Fault Refusal :=
  .next (
    match s.scan with
    | some c => s.endPoll c incompleteEnd none
    | none => s)

end Sys2Proof.Machine
end

