-- ==== Sys2Proof/Machine/Engine.lean ====
section
/-! DEFINITION. Machine/Engine.lean: the Luminance Engine's stages A to H (chapter 4), the reverse conversion (R76), and the proof
generator (R25, R26). -/

namespace Sys2Proof.Machine

/-! ### Widths and codes -/

/-- The full code of a width (R24). -/
def Width.full : Width → Nat
  | .w8 => 255
  | .w12 => 4095

/-- R24: the smaller of the zone's width and the face's maximum width; the zone's while the capability is absent. -/
def effectiveWidth (zone : Width) : Option Capability → Width
  | none => zone
  | some c => if zone = .w8 ∨ c.maxWidth = .w8 then .w8 else .w12

/-- R76: the luminance of a shown code. -/
def reverseConvert (c : ShownCode) (fullScale : Nat) : Nat :=
  min 10000 (min c.code c.width.full * fullScale / c.width.full)

/-! ### The stages -/

/-- R57, R58: the curve's luminance for an ambient level. -/
def curveLookup : List Breakpoint → Nat → Nat
  | [], _ => 0
  | [p], _ => p.y
  | p :: q :: rest, a =>
    if a < p.x then p.y
    else if a < q.x then p.y + (q.y - p.y) * (a - p.x) / (q.x - p.x)
    else curveLookup (q :: rest) a

/-- Stage C (R63): trim, rounded half up. -/
def trimmed (b trim : Nat) : Nat := (b * trim + 128) / 256

/-- R64: whether string compensation applies. -/
def compensates (cap : Option Capability) (stringsOut : Option Nat) (dmax : Nat) (asserted : KindSet) : Option (Nat × Nat) :=
  match cap, stringsOut with
  | some c, some d =>
    if 1 ≤ c.strings ∧ c.strings ≤ 64 ∧ 1 ≤ d ∧ d ≤ dmax ∧ d < c.strings ∧ kindIn asserted .strings = false
    then some (c.strings, d) else none
  | _, _ => none

/-- Stage D (R64): string compensation. -/
def compensated (tm : Nat) : Option (Nat × Nat) → Nat
  | none => tm
  | some (n, d) => tm * n / (n - d)

/-- The claim cap of a claim record, if it is in CAP mode (R66). -/
def claimCap : Option Claim → Option Nat
  | some ⟨.cap v, _⟩ => some v
  | _ => none

/-- Stage E (R66): the least of the caps in force. -/
def capInForce (faceCap zoneCap : Nat) (curfewCap thermalCap claim : Option Nat) : Nat :=
  let least (cap : Nat) : Option Nat → Nat
    | none => cap
    | some v => min cap v
  least (least (least (min (min faceCap zoneCap) 10000) curfewCap) thermalCap) claim

/-- The kinds of a goal (section 4.6). -/
inductive GoalKind where
  | immediate | direct | slewed
deriving DecidableEq, Repr

/-- A goal: its value, its kind, and whether PATTERN is its source. -/
structure Goal where
  value : Nat
  kind : GoalKind
  pattern : Bool
deriving DecidableEq, Repr

/-- Stage F (R68): the first row whose condition holds. -/
def goalOf (state : FaceState) (claim : Option Claim) (cond : Conditioning) (cp cap step : Nat) : Goal :=
  if state = .cutoff then ⟨0, .immediate, false⟩
  else if (claim.map Claim.mode) = some .blank then ⟨0, .immediate, false⟩
  else
    match cond with
    | .normal => ⟨min cp cap, .slewed, false⟩
    | .fixed v => ⟨min v cap, .slewed, false⟩
    | .blank => ⟨0, .immediate, false⟩
    | .pattern => ⟨step * cap / 7, .direct, true⟩

/-- Stage G (R71): the new commanded level from the standing one. -/
def nextLevel (g : Goal) (cap standing slewUp slewDown : Nat) : Nat :=
  match g.kind with
  | .immediate => 0
  | .direct => g.value
  | .slewed =>
    let c1 := min standing cap
    if c1 < g.value then min g.value (c1 + slewUp)
    else if g.value < c1 then max g.value (c1 - slewDown)
    else c1

/-- Stage H (R74): the drive code of a commanded level. -/
def driveCode (level fullScale : Nat) (w : Width) : Nat :=
  if fullScale ≤ level then w.full else (level * w.full + fullScale / 2) / fullScale

/-- R69: the pattern step advances when PATTERN was the source, from 7 to 0. -/
def nextStep (g : Goal) (step : Nat) : Nat := if g.pattern then (step + 1) % 8 else step

/-! ### The engine on a face record (R59, R60) -/

/-- Stages A and B (R62): the zone's ambient estimate looked up in the live list of the face's curve. -/
def State.curveLuminance (s : State) (i : FaceNo) : Nat :=
  curveLookup (s.curves.get (s.faces.get i).config.curve).live (s.zoneOf i).ambient

/-- Stages A to D for a face, as the state stands. -/
def State.compensatedFor (s : State) (i : FaceNo) : Nat :=
  let f := s.faces.get i
  compensated (trimmed (s.curveLuminance i) f.config.trim)
    (compensates f.dyn.capability f.dyn.stringsOut (s.zoneOf i).config.dmax f.dyn.asserted)

/-- Stage E for a face, as the state stands. -/
def State.capFor (s : State) (i : FaceNo) : Nat :=
  let f := s.faces.get i
  let z := (s.zoneOf i).config
  capInForce f.config.cap z.zoneCap (if s.curfew then some z.curfewCap else none)
    (if kindIn f.dyn.asserted .thermal then some (f.config.cap / 2) else none) (claimCap (s.claims.get i))

/-- Stage F for a face, as the state stands. -/
def State.goalFor (s : State) (i : FaceNo) : Goal :=
  let f := s.faces.get i
  goalOf f.dyn.state (s.claims.get i) f.config.conditioning (s.compensatedFor i) (s.capFor i) f.dyn.patternStep

/-- Stage G for a face. The standing level is present wherever the engine runs (R73). -/
def State.levelFor (s : State) (i : FaceNo) : Nat :=
  let f := s.faces.get i
  nextLevel (s.goalFor i) (s.capFor i) (f.dyn.commanded.getD 0) f.config.slewUp f.config.slewDown

/-- The effective width of a face, as the state stands (R24). -/
def State.widthFor (s : State) (i : FaceNo) : Width :=
  effectiveWidth (s.zoneOf i).config.width (s.faces.get i).dyn.capability

/-- Stage H for a face. -/
def State.codeFor (s : State) (i : FaceNo) : Nat :=
  driveCode (s.levelFor i) (s.faces.get i).config.fullScale (s.widthFor i)

/-- R59: the engine's two writes: the commanded level and the pattern step. -/
def State.runEngine (s : State) (i : FaceNo) : State :=
  let d := (s.faces.get i).dyn
  s.setFaceDyn i { d with commanded := some (s.levelFor i), patternStep := nextStep (s.goalFor i) d.patternStep }

/-! ### The proof generator (R25, R26) -/

/-- One step of the 15-bit register: it shifts toward the top and bit 14 exclusive-or bit 13 enters at bit 0. -/
def proofStep (r : BitVec 15) : BitVec 15 :=
  (r <<< 1) ||| (if (r.getLsbD 14 ^^ r.getLsbD 13) then 1#15 else 0#15)

/-- `n` successive outputs shifted into `w`, the first the most significant, and the register left. -/
def proofDraw : Nat → BitVec 16 → BitVec 15 → BitVec 16 × BitVec 15
  | 0, w, r => (w, r)
  | n + 1, w, r => proofDraw n ((w <<< 1) ||| (if r.getLsbD 14 then 1#16 else 0#16)) (proofStep r)

/-- R25: a proof word is 16 successive outputs. -/
def proofWord (r : BitVec 15) : BitVec 16 × BitVec 15 := proofDraw 16 0#16 r

end Sys2Proof.Machine
end

