-- ==== Sys2Proof/Machine/FaultMonitor.lean ====
section
/-! DEFINITION. Machine/FaultMonitor.lean: the Fault Monitor's work at a slot end (chapter 6), with the changes of face life that
chapter 5 gives for it. -/

namespace Sys2Proof.Machine

/-- The fields of a STATUS reply (R173). -/
structure StatusReply where
  shown : ShownCode
  flags : FaceFlags
  stringsOut : Option Nat
  measured : Option Nat
  echo : Option (BitVec 16)
deriving DecidableEq, Repr

/-- The fields of an IDENTITY reply (R173). -/
structure IdentityReply where
  maxWidth : Width
  photometer : Bool
  strings : Nat
  code : Nat
deriving DecidableEq, Repr

/-- A VALID reply: STATUS or IDENTITY (R16). -/
inductive FaceReply where
  | status (r : StatusReply)
  | identity (r : IdentityReply)
deriving DecidableEq, Repr

/-- The slot report (R17), with the commanded level the slot start wrote and the dmax it read; the reply is present exactly when the
slot result is OK. -/
structure SlotReport where
  face : FaceNo
  frame : ChainFrame
  wrote : Option Nat
  dmax : Nat
  outcomes : List AttemptOutcome
  reply : Option FaceReply
deriving DecidableEq, Repr

/-- An observation of a fault kind (section 6.1). -/
inductive Observation where
  | present | absent | notObserved
deriving DecidableEq, Repr

def Observation.ofBool (b : Bool) : Observation := if b then .present else .absent

/-! ### Observations (R106 to R112) -/

/-- The STATUS reply the status-derived kinds are judged from: one from a face in ACTIVE or CUTOFF (R108 to R112). -/
def judgedStatus (r : SlotReport) (d : FaceDynamic) : Option StatusReply :=
  match r.reply with
  | some (.status st) => if d.state = .active ∨ d.state = .cutoff then some st else none
  | _ => none

/-- R108: whether the face's answer shows anything but the frame just sent. -/
def echoMismatch (w : Width) (code : Nat) (proof : Option (BitVec 16)) (st : StatusReply) : Bool :=
  st.shown.width != w || st.shown.code != code || (proof.isSome && st.echo != proof)

/-- R111: the measurement the test uses, absent while the capability does not read photometer yes (R94). -/
def usableMeasurement (cap : Option Capability) (st : StatusReply) : Option Nat :=
  match cap with
  | some c => if c.photometer then st.measured else none
  | none => none

/-- R105, step 1: the observation of a kind, from the slot report and the face's record as the slot end finds it. -/
def observe (r : SlotReport) (d : FaceDynamic) (k : FaultKind) : Observation :=
  match k with
  | .noReply => Observation.ofBool r.reply.isNone
  | .badFrame => Observation.ofBool (r.outcomes.contains .corrupt)
  | .echo =>
    match judgedStatus r d, r.frame with
    | some st, .level w code proof => Observation.ofBool (echoMismatch w code proof st)
    | _, _ => .notObserved
  | .strings =>
    match (judgedStatus r d).bind StatusReply.stringsOut with
    | some n => Observation.ofBool (decide (r.dmax < n))
    | none => .notObserved
  | .thermal =>
    match judgedStatus r d with
    | some st => Observation.ofBool st.flags.thermal
    | none => .notObserved
  | .power =>
    match judgedStatus r d with
    | some st => Observation.ofBool st.flags.power
    | none => .notObserved
  | .door =>
    match judgedStatus r d with
    | some st => Observation.ofBool st.flags.door
    | none => .notObserved
  | .overbright =>
    match (judgedStatus r d).bind (usableMeasurement d.capability), d.delivered with
    | some m, some level => Observation.ofBool (decide (5 * level + 400 < 4 * m))
    | _, _ => .notObserved

/-! ### Persistence (R113, R114) -/

/-- A kind's runs after an observation. -/
def runsAfter (o : Observation) (r : Runs) : Runs :=
  match o with
  | .present => ⟨bump 15 r.present, 0⟩
  | .absent => ⟨0, bump 15 r.absent⟩
  | .notObserved => r

/-- Whether a kind is asserted after an observation, given its runs before it. -/
def assertedAfter (o : Observation) (p : Persistence) (r : Runs) (asserted : Bool) : Bool :=
  match o with
  | .present => asserted || decide (p.assert ≤ bump 15 r.present)
  | .absent => asserted && !decide (p.clear ≤ bump 15 r.absent)
  | .notObserved => asserted

/-- R105, step 2, for one kind: its runs, its place in the asserted set, and the ECHO counter (R124). -/
def applyObservation (persist : Table Persistence 8) (o : Observation) (k : FaultKind) (d : FaceDynamic) : FaceDynamic :=
  let runs := d.runs.get k.no
  { d with
    runs := d.runs.set k.no (runsAfter o runs)
    asserted := if assertedAfter o (persist.get k.no) runs (kindIn d.asserted k) then kindInsert d.asserted k
      else kindErase d.asserted k
    live := if k = .echo ∧ o = .present then { d.live with echo := bump 4095 d.live.echo } else d.live }

/-- R105, steps 1 and 2: every observation is formed from the record as the slot end finds it, then each is applied. -/
def applyObservations (persist : Table Persistence 8) (r : SlotReport) (d : FaceDynamic) : FaceDynamic :=
  allKinds.foldl (fun e k => applyObservation persist (observe r d k) k e) d

/-! ### The delivered level (R119) -/

/-- R105, step 3. The IDENTITY rows of R119 belong to step 4. -/
def deliver (r : SlotReport) (d : FaceDynamic) : FaceDynamic :=
  match r.frame, r.reply with
  | .level _ _ _, some (.status _) => { d with delivered := r.wrote }
  | _, _ => d

/-! ### Stored reports and face life (R93 to R97) -/

/-- R94: the capability and the last shown code from an IDENTITY. The stored strings-out count, measurement, face flags and pattern step
stand at a restart of either kind: the model's choice where R95, R96 and R97 disagree or are silent (log entry 18). -/
def storeIdentity (r : IdentityReply) (d : FaceDynamic) : FaceDynamic :=
  { d with
    capability := some ⟨r.maxWidth, r.photometer, if r.strings ≤ 64 then r.strings else 0⟩
    shown := some ⟨min r.code r.maxWidth.full, r.maxWidth⟩ }

/-- R95: the stored fields of a STATUS. -/
def storeStatus (st : StatusReply) (d : FaceDynamic) : FaceDynamic :=
  { d with
    shown := some ⟨min st.shown.code st.shown.width.full, st.shown.width⟩
    stringsOut := match st.stringsOut with
      | some n => some (min n 64)
      | none => d.stringsOut
    measured := match usableMeasurement d.capability st with
      | some m => some m
      | none => d.measured
    flags := st.flags }

/-- R77: the commanded level set from the last shown code. -/
def takeUp (fullScale : Nat) (d : FaceDynamic) : FaceDynamic :=
  match d.shown with
  | some c => { d with commanded := some (reverseConvert c fullScale) }
  | none => d

/-- R105, step 4: the stored fields, and the join (R93) or restart (R96, R97) with the detail of its FACE_STATE notice. The face's state
is the one the slot end finds, whatever frame was sent: a face restored during its slot restarts by R96 and not from 0, and a face cut
off by RESUME or HALT during a HOLD slot restarts by R97. Both are the model's choice (log entry 16). -/
def faceLife (fullScale : Nat) (r : SlotReport) (d : FaceDynamic) : FaceDynamic × Option (FaceState × Bool) :=
  match r.reply, d.state with
  | some (.identity x), .joining =>
    ({ takeUp fullScale (storeIdentity x d) with state := .active, delivered := none }, some (.active, false))
  | some (.identity x), .active =>
    ({ takeUp fullScale (storeIdentity x d) with delivered := none }, some (.active, true))
  | some (.identity x), .cutoff => ({ storeIdentity x d with delivered := none }, some (.cutoff, true))
  | some (.status st), .active => (storeStatus st d, none)
  | some (.status st), .cutoff => (storeStatus st d, none)
  | _, _ => (d, none)

/-! ### The slot end (R105) -/

/-- R105, step 6 (R120): an ACTIVE face with OVERBRIGHT asserted enters CUTOFF in RUNNING or HALTING. -/
def State.cutoffTest (s : State) (i : FaceNo) : State :=
  let d := (s.faces.get i).dyn
  if d.state = .active ∧ kindIn d.asserted .overbright = true ∧ (s.mode = .running ∨ s.mode = .halting) then s.enterCutoff i
  else s

/-- The dynamic part of the report's face after steps 1 to 4, with the detail of the FACE_STATE notice of a join or restart. The full scale
of the reverse conversion is the one stored at the slot end (R76), also where a SET_FACE changed it during the slot: the model's choice
between R76 and R89 (log entry 17). -/
def State.monitored (s : State) (r : SlotReport) : FaceDynamic × Option (FaceState × Bool) :=
  let f := s.faces.get r.face
  faceLife f.config.fullScale r (deliver r (applyObservations s.persist r f.dyn))

/-- R105, steps 5 and 6: the notices and the cutoff test, once the face's dynamic part is `d`. -/
def State.reportFaults (s : State) (i : FaceNo) (before : KindSet) (d : FaceDynamic) (life : Option (FaceState × Bool)) : State :=
  let s1 := s.setFaceDyn i d
  let s2 := if d.asserted = before then s1 else s1.post (.faceFault i d.asserted)
  let s3 := match life with
    | some (st, restarted) => s2.post (.faceState i st restarted)
    | none => s2
  s3.cutoffTest i

/-- R105: the Fault Monitor's whole work on a slot report. -/
def State.faultMonitor (s : State) (r : SlotReport) : State :=
  let m := s.monitored r
  s.reportFaults r.face (s.faces.get r.face).dyn.asserted m.1 m.2

end Sys2Proof.Machine
end

