-- ==== Sys2Proof/Machine/Chain.lean ====
section
/-! DEFINITION. Machine/Chain.lean: the Chain Controller's cycles and slots (chapter 1): the cycle start with its latches, the slot
start with the choice of the frame, the ends of attempts, slots and cycles, and the completion of a halt. -/

namespace Sys2Proof.Machine

/-! ### The slot start (R9, R10, R26) -/

/-- The reply window of a zone's extension, in ms (R13). -/
def windowOf (extension : Nat) : Nat :=
  match extension with
  | 0 => 2
  | 1 => 4
  | 2 => 6
  | _ => 2

/-- R59: the modes in which the engine runs for ACTIVE and CUTOFF faces. -/
def Mode.drives (m : Mode) : Bool :=
  match m with
  | .running | .halting => true
  | .hold | .halted => false

/-- What a slot start sends a face (R10): nothing is yet decided of a LEVEL frame's code. -/
inductive FrameChoice where
  | ident | engine | dark | hold
deriving DecidableEq, Repr

/-- R10. A face in CUTOFF, which HOLD does not have, would be kept dark there too (R70). -/
def State.frameChoice (s : State) (i : FaceNo) : FrameChoice :=
  match (s.faces.get i).dyn.state with
  | .offline | .joining => .ident
  | .active => if s.mode.drives then .engine else if s.blankClaimed i then .dark else .hold
  | .cutoff => if s.mode.drives then .engine else .dark

/-- R61: the commanded level of a face kept dark in HOLD. -/
def State.darken (s : State) (i : FaceNo) : State :=
  s.setFaceDyn i { (s.faces.get i).dyn with commanded := some 0 }

/-- The slot in hand at its first attempt. It keeps the zone's dmax as its start reads it (R40, R89, R109); R86 has the Fault Monitor read
dmax at the slot end, and the rules disagree when it is changed in between: the model's choice is log entry 17. -/
def State.newSlot (s : State) (i : FaceNo) (frame : ChainFrame) (wrote : Option Nat) : Slot :=
  let z := (s.zoneOf i).config
  { face := i, frame := frame, wrote := wrote, extension := z.extension, dmax := z.dmax, permitted := 1 + s.retries,
    outcomes := [], attempt := .sending }

/-- A LEVEL frame to a face in its effective width, with a proof word drawn when the face's proof setting is on (R26): the state
after the draw, and the slot. -/
def State.levelSlot (s : State) (i : FaceNo) (width : Width) (code wrote : Nat) : State × Slot :=
  if (s.faces.get i).config.proof then
    let (word, left) := proofWord s.proofGen
    ({ s with proofGen := left }, s.newSlot i (.level width code (some word)) (some wrote))
  else (s, s.newSlot i (.level width code none) (some wrote))

/-- R9, R10: what a slot start does to the state, and the slot it begins. -/
def State.openSlot (s : State) (i : FaceNo) : State × Slot :=
  match s.frameChoice i with
  | .ident => (s, s.newSlot i .ident none)
  | .hold => (s, s.newSlot i .hold none)
  | .dark => (s.darken i).levelSlot i (s.widthFor i) 0 0
  | .engine => (s.runEngine i).levelSlot i (s.widthFor i) (s.codeFor i) (s.levelFor i)

/-- R9: the slot start of face `i`, after the faces `served` and before the faces `todo` of the slot list. -/
def State.slotStart (s : State) (served : List FaceNo) (i : FaceNo) (todo : List FaceNo) : State :=
  let (t, slot) := s.openSlot i
  { t with cycle := some ⟨served, slot, todo⟩ }

/-! ### The cycle start (R2) -/

/-- R52: every pending list becomes live. -/
def Curve.latch (c : Curve) : Curve :=
  match c.waiting with
  | some l => ⟨l, none⟩
  | none => c

def State.latchCurves (s : State) : State := { s with curves := s.curves.map Curve.latch }

/-- R92, R102: the enable latch on one face below the span. -/
def State.latchFace (i : FaceNo) (s : State) : State :=
  let f := s.faces.get i
  if s.span.covers i then
    if f.config.enabled then
      if f.dyn.state = .offline then
        (s.setFaceDyn i { f.dyn with state := .joining }).post (.faceState i .joining false)
      else s
    else if f.dyn.state = .offline then s
    else s.goOffline i
  else s

def State.latchEnables (s : State) : State := s.eachFace State.latchFace

/-- R2, step 5: the faces below the span that are not OFFLINE, in ascending order. -/
def State.slotList (s : State) : List FaceNo :=
  allFaces.filter (fun i => s.span.covers i && decide ((s.faces.get i).dyn.state ≠ .offline))

/-- R159: the completion of a halt. -/
def State.completeHalt (s : State) : State :=
  { s with overrunWaiting := false, cycleTimer := none }.changeMode .halted

/-- R2, steps 1 to 4: the timer, the count and the latches. -/
def State.latchCycle (s : State) : State :=
  ({ s with cycleTimer := some s.period, cycleCount := s.cycleCount + 1#32 }.latchCurves).latchEnables

/-- R2, steps 5 and 6: the slot list is drawn up; the first slot starts, or the cycle ends at once (R4). -/
def State.beginCycle (s : State) : State :=
  match s.slotList with
  | [] => if s.mode = .halting then { s with cycle := none }.completeHalt else { s with cycle := none }
  | i :: todo => s.slotStart [] i todo

/-- R2: a cycle start. -/
def State.cycleStart (s : State) : State := s.latchCycle.beginCycle

/-! ### Ends (R4, R16 to R18) -/

/-- R4: the end of the cycle in progress: a halt completes, or an overrun that waits starts the next cycle (R6). -/
def State.cycleEnd (s : State) : State :=
  let t := { s with cycle := none, overrunWaiting := false }
  if s.mode = .halting then t.completeHalt
  else if s.overrunWaiting then t.cycleStart
  else t

/-- R17: after a slot end, the next slot of the list, or the cycle end. -/
def State.nextSlot (s : State) (c : Cycle) : State :=
  match c.todo with
  | [] => s.cycleEnd
  | i :: rest => s.slotStart (c.served ++ [c.slot.face]) i rest

/-- The slot report of a slot (R17). -/
def Slot.report (slot : Slot) (reply : Option FaceReply) : SlotReport :=
  { face := slot.face, frame := slot.frame, wrote := slot.wrote, dmax := slot.dmax, outcomes := slot.outcomes, reply := reply }

/-- R18: a live counter of a face raised. -/
def State.countMissed (s : State) (i : FaceNo) : State :=
  let d := (s.faces.get i).dyn
  s.setFaceDyn i { d with live := { d.live with missed := bump 65535 d.live.missed } }

def State.countCorrupt (s : State) (i : FaceNo) : State :=
  let d := (s.faces.get i).dyn
  s.setFaceDyn i { d with live := { d.live with corrupt := bump 4095 d.live.corrupt } }

/-- R17: the slot end, OK with a reply or MISS without one. The MISSED counter is raised at the slot end of a MISS (R18). -/
def State.slotEnd (s : State) (c : Cycle) (reply : Option FaceReply) : State :=
  let s1 := if reply.isNone then s.countMissed c.slot.face else s
  (s1.faultMonitor (c.slot.report reply)).nextSlot c

/-- The cycle with an attempt's outcome added to its slot. -/
def Cycle.addOutcome (c : Cycle) (o : AttemptOutcome) : Cycle :=
  { c with slot := { c.slot with outcomes := c.slot.outcomes ++ [o] } }

/-- The cycle with its slot's attempt replaced. -/
def Cycle.withAttempt (c : Cycle) (a : Attempt) : Cycle := { c with slot := { c.slot with attempt := a } }

/-- R16, R17: an attempt ends VALID, and the slot ends OK. -/
def State.attemptValid (s : State) (c : Cycle) (reply : FaceReply) : State :=
  s.slotEnd (c.addOutcome .valid) (some reply)

/-- R12, R17, R18: an attempt ends CORRUPT or SILENT: the identical frame is sent again if attempts remain, else the slot ends
MISS. A CORRUPT attempt and a retry are counted as they happen. -/
def State.attemptFailed (s : State) (c : Cycle) (o : AttemptOutcome) : State :=
  let s1 := if o = .corrupt then s.countCorrupt c.slot.face else s
  let c1 := c.addOutcome o
  if c1.slot.outcomes.length < c1.slot.permitted then
    { s1 with cycle := some (c1.withAttempt .sending), retriesSent := bump 65535 s1.retriesSent }
  else s1.slotEnd c1 none

end Sys2Proof.Machine
end

