-- ==== Sys2Proof/Machine/ChainReply.lean ====
section
/-! DEFINITION. Machine/ChainReply.lean: the events of the face chain: the cycle timer, the end of a frame's sending, the reply window,
and the bytes of a reply (R5, R6, R13 to R16, layouts of R173). -/

namespace Sys2Proof.Machine

/-! ### The cycle timer (R5, R6) -/

/-- R6: an overrun. -/
def State.overrun (s : State) : State :=
  { s with overruns := bump 65535 s.overruns, overrunWaiting := true, cycleTimer := none }.post .overrun

/-- CYCLE_TIMER_EXPIRY: with the timer running, an overrun while a cycle is in progress, else the next cycle's start. A stopped
timer does not expire (log entry 3). -/
def execCycleTimerExpiry (s : State) : Host.Outcome State Fault Refusal :=
  .next (
    if s.cycleTimer.isNone || s.resetting then s
    else if s.cycle.isSome then s.overrun
    else if s.mode = .halted then s
    else s.cycleStart)

/-! ### The reply window (R13, R14) -/

/-- CHAIN_FRAME_SENT: the reply window opens when the last byte of the frame has left the part (R13). -/
def execChainFrameSent (s : State) : Host.Outcome State Fault Refusal :=
  .next (
    match s.cycle with
    | some c =>
      if c.slot.attempt = .sending then
        { s with cycle := some (c.withAttempt (.listening (windowOf c.slot.extension) 0 false none)) }
      else s
    | none => s)

/-- REPLY_WINDOW_EXPIRY: with no reply begun the attempt ends SILENT; a reply begun is received to its end (R13). -/
def execReplyWindowExpiry (s : State) : Host.Outcome State Fault Refusal :=
  .next (
    match s.cycle with
    | some c =>
      match c.slot.attempt with
      | .listening _ _ _ none => s.attemptFailed c .silent
      | .listening w n _ (some r) => { s with cycle := some (c.withAttempt (.listening w n true (some r))) }
      | .sending => s
    | none => s)

/-! ### The bytes of a reply (R15, R16) -/

/-- How many payload bytes follow a reply's kind; for a STATUS its flags byte gives them (R173). None for a kind that cannot be
measured out. -/
def replyPayloadLength (kind : Byte) (flags : Option Byte) : Option Nat :=
  match kind.toNat with
  | 0x81 =>
    match flags with
    | none => some 3
    | some f =>
      some (3 + (if f.getLsbD 4 then 1 else 0) + (if f.getLsbD 5 then 2 else 0) + (if f.getLsbD 6 then 2 else 0))
  | 0x82 => some 4
  | 0x83 => some 0
  | _ => none

def statusWidth (flags : Byte) : Width := if flags.getLsbD 0 then .w12 else .w8

/-- A field of a STATUS that is present when its flag says so, and the bytes after it. -/
def takeField (present : Bool) (n : Nat) (bs : List Byte) : Option Nat × List Byte :=
  if present then (some (readBytes (bs.take n)), bs.drop n) else (none, bs)

/-- The fields of a STATUS payload (R173). Bit 7 of the flags byte, which R173 gives no meaning, is ignored (log entry 4). -/
def parseStatus (payload : List Byte) : Option StatusReply :=
  match payload with
  | flags :: hi :: lo :: rest =>
    let strings := takeField (flags.getLsbD 4) 1 rest
    let measured := takeField (flags.getLsbD 5) 2 strings.2
    let echo := takeField (flags.getLsbD 6) 2 measured.2
    some
      { shown := ⟨readBytes [hi, lo], statusWidth flags⟩
        flags := ⟨flags.getLsbD 1, flags.getLsbD 2, flags.getLsbD 3⟩
        stringsOut := strings.1
        measured := measured.1
        echo := echo.1.map (BitVec.ofNat 16) }
  | _ => none

/-- The fields of an IDENTITY payload (R173). Bits 2 to 7 of the flags byte, which R173 gives no meaning, are ignored (log entry 4). -/
def parseIdentity (payload : List Byte) : Option IdentityReply :=
  match payload with
  | [flags, strings, hi, lo] => some ⟨statusWidth flags, flags.getLsbD 1, strings.toNat, readBytes [hi, lo]⟩
  | _ => none

/-- How a complete reply is judged (R16): VALID with its content, a WAIT correctly addressed, or CORRUPT. -/
inductive ReplyVerdict where
  | valid (reply : FaceReply)
  | wait
  | corrupt
deriving DecidableEq, Repr

/-- R16: the judgement of a complete reply: the bytes from the address to the CRC. -/
def judgeReply (face : FaceNo) (bytes : List Byte) : ReplyVerdict :=
  let body := bytes.take (bytes.length - 2)
  if crcBytes (crcOf body) = bytes.drop (bytes.length - 2) then
    match body with
    | address :: kind :: payload =>
      if address.toNat = face.val then
        match kind.toNat with
        | 0x81 =>
          match parseStatus payload with
          | some r => .valid (.status r)
          | none => .corrupt
        | 0x82 =>
          match parseIdentity payload with
          | some r => .valid (.identity r)
          | none => .corrupt
        | 0x83 => .wait
        | _ => .corrupt
      else .corrupt
    | _ => .corrupt
  else .corrupt

/-- What the bytes of a reply taken so far make of it (R15): more to come, complete, or ended at a kind byte that is none. -/
inductive ReplyProgress where
  | more | complete | badKind
deriving DecidableEq, Repr

def replyProgress (bytes : List Byte) : ReplyProgress :=
  match bytes with
  | _ :: kind :: payload =>
    match replyPayloadLength kind payload.head? with
    | none => .badKind
    | some n => if payload.length < n + 2 then .more else .complete
  | _ => .more

/-- R13, R14: a WAIT correctly addressed and with a good CRC: honoured in a zone with extension 3 up to eight times in an attempt,
the ninth ending the attempt SILENT; disregarded with extension 0 to 2, where the attempt ends SILENT if the window ran out while
the WAIT was arriving (log entry 8). -/
def State.takeWait (s : State) (c : Cycle) (window waits : Nat) (expired : Bool) : State :=
  if c.slot.extension = 3 then
    if waits < 8 then { s with cycle := some (c.withAttempt (.listening 2 (waits + 1) false none)) }
    else s.attemptFailed c .silent
  else if expired then s.attemptFailed c .silent
  else { s with cycle := some (c.withAttempt (.listening window waits false none)) }

/-- R15, R16: a byte of a reply that has begun. -/
def State.replyByte (s : State) (c : Cycle) (window waits : Nat) (expired : Bool) (bytes : List Byte) : State :=
  match replyProgress bytes with
  | .more => { s with cycle := some (c.withAttempt (.listening window waits expired (some bytes))) }
  | .badKind => s.attemptFailed c .corrupt
  | .complete =>
    match judgeReply c.slot.face bytes with
    | .valid r => s.attemptValid c r
    | .wait => s.takeWait c window waits expired
    | .corrupt => s.attemptFailed c .corrupt

/-- CHAIN_BYTE_RECEIVED: a byte on the chain while a window is open; at any other time it is ignored (R15). -/
def execChainByteReceived (byte : Byte) (s : State) : Host.Outcome State Fault Refusal :=
  .next (
    match s.cycle with
    | some c =>
      match c.slot.attempt with
      | .sending => s
      | .listening w n e none =>
        if byte = Config.chainStart then { s with cycle := some (c.withAttempt (.listening w n e (some []))) } else s
      | .listening w n e (some bytes) => s.replyByte c w n e (bytes ++ [byte])
    | none => s)

/-- CHAIN_REPLY_GAP_TIMEOUT: a gap inside a reply ends it as incomplete, and the attempt ends CORRUPT (R15, R16). -/
def execChainReplyGapTimeout (s : State) : Host.Outcome State Fault Refusal :=
  .next (
    match s.cycle with
    | some c =>
      match c.slot.attempt with
      | .listening _ _ _ (some _) => s.attemptFailed c .corrupt
      | .listening _ _ _ none => s
      | .sending => s
    | none => s)

end Sys2Proof.Machine
end

