-- ==== Sys2Proof/Machine/Requests.lean ====
section
/-! DEFINITION. Machine/Requests.lean: taking a request (R168, R169): what every request shares, and the two requests of chapter 11. -/

namespace Sys2Proof.Machine

/-- R167, R168: a frame discarded on a link: no reply, and the link's error count rises to at most 255. -/
def State.discardFrame (s : State) (l : Link) : State :=
  s.setPort l { s.port l with errors := bump 255 (s.port l).errors }

/-- R168, R169: a complete good frame on a link. While a reset is in progress nothing is received (R163); while a reply is pending
the frame is discarded; else the request is judged, its effect is made, and its one reply is set on its way. -/
def State.takeRequest (s : State) (l : Link) (kind tag : Byte) (judge : State → Answer × State) : State :=
  if s.resetting then s
  else if (s.port l).reply.isSome then s.discardFrame l
  else
    let r := judge s
    r.2.setPort l { r.2.port l with reply := some ⟨kind, tag, r.1⟩ }

/-- A refused request changes nothing (R169). -/
def refuse (reason : Reason) (s : State) : Answer × State := (.refused reason, s)

/-- A request answered DONE that changes nothing. -/
def answer (data : List Byte) (s : State) : Answer × State := (.done false data, s)

/-! ### PING and STATUS (section 11.4) -/

/-- R170. -/
def judgePing (payload : List Byte) (s : State) : Answer × State :=
  match payload with
  | [] => answer (bytes2 Config.vendorCode ++ bytes1 Config.family ++ bytes1 Config.part ++ bytes1 Config.revision) s
  | _ => refuse .badLength s

def execPing (tag : Byte) (payload : List Byte) (s : State) : Host.Outcome State Fault Refusal :=
  .next (s.takeRequest .control RequestKind.ping.code tag (judgePing payload))

/-- The data of a STATUS reply (R171). -/
def State.statusData (s : State) : List Byte :=
  bytes1 s.mode.no ++ bytes1 s.lastCause.no ++ byteOption 3 bytes3 s.dayClock ++ bytes4 s.cycleCount.toNat ++ bytes2 s.overruns
    ++ bytes1 s.queue.length ++ byteFlag s.otherLost ++ bytes1 (faceCount s.hazard) ++ bytes1 s.control.errors
    ++ bytes1 s.authority.errors

/-- R171. -/
def judgeStatus (payload : List Byte) (s : State) : Answer × State :=
  match payload with
  | [] => answer s.statusData s
  | _ => refuse .badLength s

def execStatus (tag : Byte) (payload : List Byte) (s : State) : Host.Outcome State Fault Refusal :=
  .next (s.takeRequest .control RequestKind.status.code tag (judgeStatus payload))

end Sys2Proof.Machine
end

