-- ==== Sys2Proof/Machine/AuthorityRequests.lean ====
section
/-! DEFINITION. Machine/AuthorityRequests.lean: the four requests of the authority link (chapter 7). -/

namespace Sys2Proof.Machine

/-- R129: the longest hold, in minutes. -/
def maxHold : Nat := 1440

/-- R129, R130: a claim record written on a member; a face that had none posts an OWNER notice. -/
def State.claimFace (members : FaceSet) (c : Claim) (i : FaceNo) (s : State) : State :=
  if faceIn members i then
    if (s.claims.get i).isSome then s.setClaim i (some c)
    else (s.setClaim i (some c)).post (.owner i .authority false)
  else s

/-- R129: whether the cap level or the hold time was clamped. -/
def claimClamped (mode : ClaimMode) (level hold : Nat) : Bool :=
  (match mode with
    | .blank => false
    | .cap v => v != level) || clamp 0 maxHold hold != hold

/-- R129. -/
def judgeClaim (payload : List Byte) (s : State) : Answer × State :=
  match payload with
  | [a, b, c, d, code, hi, lo, hh, hl] =>
    match readClaimMode code (readBytes [hi, lo]) with
    | some mode =>
      let members := s.span.foldSet (readFaceSet a b c d)
      let record : Claim := ⟨mode, 60 * clamp 0 maxHold (readBytes [hh, hl])⟩
      (.done (claimClamped mode (readBytes [hi, lo]) (readBytes [hh, hl])) (byteFaceSet members ++ byteClaim record),
        s.eachFace (State.claimFace members record))
    | none => refuse .badValue s
  | _ => refuse .badLength s

def execClaim (tag : Byte) (payload : List Byte) (s : State) : Host.Outcome State Fault Refusal :=
  .next (s.takeRequest .authority RequestKind.claim.code tag (judgeClaim payload))

/-- R131: a member that holds a claim loses it. -/
def State.releaseFace (members : FaceSet) (i : FaceNo) (s : State) : State :=
  if faceIn members i && (s.claims.get i).isSome then (s.setClaim i none).post (.owner i .operator false) else s

/-- R131. -/
def judgeRelease (payload : List Byte) (s : State) : Answer × State :=
  match payload with
  | [a, b, c, d] =>
    let members := s.span.foldSet (readFaceSet a b c d)
    (.done false (byteFaceSet (members &&& s.claimedSet)), s.eachFace (State.releaseFace members))
  | _ => refuse .badLength s

def execRelease (tag : Byte) (payload : List Byte) (s : State) : Host.Outcome State Fault Refusal :=
  .next (s.takeRequest .authority RequestKind.release.code tag (judgeRelease payload))

/-- The data of an AUTH_READ_FACE reply (R135). -/
def State.authorityFaceData (s : State) (i : FaceNo) : List Byte :=
  let d := (s.faces.get i).dyn
  bytes1 i.val ++ bytes1 d.state.no ++ bytes1 (s.owner i).no ++ byteOption 7 byteClaim (s.claims.get i)
    ++ byteOption 2 bytes2 d.commanded ++ byteOption 2 bytes2 d.delivered ++ [d.asserted]

/-- R135. -/
def judgeAuthReadFace (payload : List Byte) (s : State) : Answer × State :=
  match payload with
  | [face] => answer (s.authorityFaceData (s.span.fold face.toNat)) s
  | _ => refuse .badLength s

def execAuthReadFace (tag : Byte) (payload : List Byte) (s : State) : Host.Outcome State Fault Refusal :=
  .next (s.takeRequest .authority RequestKind.authReadFace.code tag (judgeAuthReadFace payload))

/-- The data of an AUTH_STATUS reply (R139). -/
def State.authorityStatusData (s : State) : List Byte :=
  bytes1 s.mode.no ++ bytes1 s.lastCause.no ++ byteFlag s.restarted ++ byteFaceSet s.hazard ++ byteFaceSet s.lapsed
    ++ byteFaceSet s.claimedSet

/-- R139. -/
def judgeAuthStatus (payload : List Byte) (s : State) : Answer × State :=
  match payload with
  | [] => (.done false s.authorityStatusData, { s with restarted := false, hazard := 0#32, lapsed := 0#32 })
  | _ => refuse .badLength s

def execAuthStatus (tag : Byte) (payload : List Byte) (s : State) : Host.Outcome State Fault Refusal :=
  .next (s.takeRequest .authority RequestKind.authStatus.code tag (judgeAuthStatus payload))

end Sys2Proof.Machine
end

