-- ==== Sys2Proof/Machine/Settings.lean ====
section
/-! DEFINITION. Machine/Settings.lean: the requests on zones, sensors and curves and the chain's own settings (chapters 1, 2, 3). -/

namespace Sys2Proof.Machine

/-! ### Zones and sensors (R39, R41) -/

/-- The fields of a SET_ZONE request, in the order of R38's table. -/
structure ZoneFields where
  primary : Option Nat
  secondary : Option Nat
  fallback : Option Nat
  rising : Option Nat
  falling : Option Nat
  zoneCap : Option Nat
  curfewCap : Option Nat
  width : Option Nat
  extension : Option Nat
  dmax : Option Nat
deriving DecidableEq, Repr

/-- R172: a mask of 2 bytes and the present fields. -/
def readZoneFields (mask : Nat) (bs : List Byte) : Option ZoneFields :=
  match readFields mask [1, 1, 3, 1, 1, 2, 2, 1, 1, 1] bs with
  | some [a, b, c, d, e, f, g, h, i, j] => some ⟨a, b, c, d, e, f, g, h, i, j⟩
  | _ => none

/-- R39, test 2: every sensor code present is 0 to 3 or none. -/
def ZoneFields.sensorsGood (z : ZoneFields) : Bool :=
  (z.primary.all (fun v => (readSensorCode v).isSome)) && (z.secondary.all (fun v => (readSensorCode v).isSome))

/-- R39, test 3: a width present is 8 or 12. -/
def ZoneFields.widthGood (z : ZoneFields) : Bool := z.width.all (fun v => (readWidth v).isSome)

/-- R39, test 4: whether a width present differs from the zone's. -/
def ZoneFields.changesWidth (z : ZoneFields) (c : ZoneConfig) : Bool :=
  z.width.any (fun v => readWidth v != some c.width)

/-- A numeric field clamped and stored when present. -/
def storeField (lo hi old : Nat) : Option Nat → Nat
  | none => old
  | some v => clamp lo hi v

/-- Whether a numeric field present had to be clamped. -/
def fieldClamped (lo hi : Nat) : Option Nat → Bool
  | none => false
  | some v => clamp lo hi v != v

/-- R39: the configuration after every present field is clamped and stored. -/
def ZoneFields.store (z : ZoneFields) (c : ZoneConfig) : ZoneConfig :=
  { naming := ⟨(z.primary.bind readSensorCode).getD c.naming.primary, (z.secondary.bind readSensorCode).getD c.naming.secondary⟩
    fallback := storeField 0 100000 c.fallback z.fallback
    rising := storeField 1 16 c.rising z.rising
    falling := storeField 1 16 c.falling z.falling
    zoneCap := storeField 0 10000 c.zoneCap z.zoneCap
    curfewCap := storeField 0 10000 c.curfewCap z.curfewCap
    width := (z.width.bind readWidth).getD c.width
    extension := storeField 0 3 c.extension z.extension
    dmax := storeField 0 8 c.dmax z.dmax }

/-- R39: whether any field was clamped. -/
def ZoneFields.clamped (z : ZoneFields) : Bool :=
  fieldClamped 0 100000 z.fallback || fieldClamped 1 16 z.rising || fieldClamped 1 16 z.falling
    || fieldClamped 0 10000 z.zoneCap || fieldClamped 0 10000 z.curfewCap || fieldClamped 0 3 z.extension
    || fieldClamped 0 8 z.dmax

/-- R39: SET_ZONE judged once its fields are read. -/
def judgeZoneFields (zone : Byte) (f : ZoneFields) (s : State) : Answer × State :=
  match readZoneNo zone with
  | none => refuse .badValue s
  | some n =>
    let z := s.zones.get n
    if f.sensorsGood = false ∨ f.widthGood = false then refuse .badValue s
    else if f.changesWidth z.config = true ∧ s.mode ≠ .halted then refuse .wrongMode s
    else (.done f.clamped (byteZoneConfig (f.store z.config)), s.setZone n { z with config := f.store z.config })

/-- R39. -/
def judgeSetZone (payload : List Byte) (s : State) : Answer × State :=
  match payload with
  | zone :: hi :: lo :: rest =>
    match readZoneFields (readBytes [hi, lo]) rest with
    | some f => judgeZoneFields zone f s
    | none => refuse .badLength s
  | _ => refuse .badLength s

def execSetZone (tag : Byte) (payload : List Byte) (s : State) : Host.Outcome State Fault Refusal :=
  .next (s.takeRequest .control RequestKind.setZone.code tag (judgeSetZone payload))

/-- The data of a READ_ZONE reply (R41). -/
def State.zoneData (s : State) (n : ZoneNo) : List Byte :=
  let z := s.zones.get n
  byteZoneConfig z.config ++ bytes3 z.ambient ++ bytes1 z.source.no ++ byteFlag z.disagree ++ byteFlag s.curfew

/-- R41. -/
def judgeReadZone (payload : List Byte) (s : State) : Answer × State :=
  match payload with
  | [zone] =>
    match readZoneNo zone with
    | some n => answer (s.zoneData n) s
    | none => refuse .badValue s
  | _ => refuse .badLength s

def execReadZone (tag : Byte) (payload : List Byte) (s : State) : Host.Outcome State Fault Refusal :=
  .next (s.takeRequest .control RequestKind.readZone.code tag (judgeReadZone payload))

/-- The data of a READ_SENSOR reply (R41). -/
def Sensor.data (x : Sensor) : List Byte :=
  bytes1 x.health.no ++ bytes1 x.missRun ++ bytes1 x.validRun ++ byteOption 3 bytes3 x.reading

/-- R41. -/
def judgeReadSensor (payload : List Byte) (s : State) : Answer × State :=
  match payload with
  | [sensor] =>
    match readSensorNo sensor with
    | some n => answer (s.sensors.get n).data s
    | none => refuse .badValue s
  | _ => refuse .badLength s

def execReadSensor (tag : Byte) (payload : List Byte) (s : State) : Host.Outcome State Fault Refusal :=
  .next (s.takeRequest .control RequestKind.readSensor.code tag (judgeReadSensor payload))

/-! ### The chain's settings (R1, R12, R21) -/

/-- R1: brought down onto the 10 ms step, then clamped. -/
def periodOf (v : Nat) : Nat := clamp 50 2000 (v / 10 * 10)

/-- R1. -/
def judgeSetCycle (payload : List Byte) (s : State) : Answer × State :=
  match payload with
  | [] => answer (bytes2 s.period) s
  | [a, b] =>
    let v := readBytes [a, b]
    (.done (periodOf v != v) (bytes2 (periodOf v)), { s with period := periodOf v })
  | _ => refuse .badLength s

def execSetCycle (tag : Byte) (payload : List Byte) (s : State) : Host.Outcome State Fault Refusal :=
  .next (s.takeRequest .control RequestKind.setCycle.code tag (judgeSetCycle payload))

/-- R12. -/
def judgeSetRetries (payload : List Byte) (s : State) : Answer × State :=
  match payload with
  | [] => answer (bytes1 s.retries) s
  | [v] =>
    (.done (clamp 0 2 v.toNat != v.toNat) (bytes1 (clamp 0 2 v.toNat)), { s with retries := clamp 0 2 v.toNat })
  | _ => refuse .badLength s

def execSetRetries (tag : Byte) (payload : List Byte) (s : State) : Host.Outcome State Fault Refusal :=
  .next (s.takeRequest .control RequestKind.setRetries.code tag (judgeSetRetries payload))

/-- R21: the spans there are. -/
def readSpan (b : Byte) : Option Span :=
  match b.toNat with
  | 8 => some .s8
  | 16 => some .s16
  | 32 => some .s32
  | _ => none

/-- R22: a face at or above a smaller span loses its place. -/
def State.losePlace (n : Span) (i : FaceNo) (s : State) : State :=
  if n.covers i then s
  else (s.setFaceConfig i { (s.faces.get i).config with enabled := false }).goOffline i

/-- R21, R22: the span changed; a smaller one takes the faces at or above it out of service. -/
def State.changeSpan (s : State) (n : Span) : State :=
  { (if n.size < s.span.size then s.eachFace (State.losePlace n) else s) with span := n }

/-- R21, test 3: whether a face at or above a span holds a claim. -/
def State.claimedAbove (s : State) (n : Span) : Bool :=
  allFaces.any (fun i => !n.covers i && (s.claims.get i).isSome)

/-- R21. -/
def judgeSetSpan (payload : List Byte) (s : State) : Answer × State :=
  match payload with
  | [] => answer (bytes1 s.span.size) s
  | [v] =>
    if s.mode ≠ .halted then refuse .wrongMode s
    else
      match readSpan v with
      | none => refuse .badValue s
      | some n =>
        if n.size < s.span.size ∧ s.claimedAbove n = true then refuse .wrongState s
        else (.done false (bytes1 n.size), s.changeSpan n)
  | _ => refuse .badLength s

def execSetSpan (tag : Byte) (payload : List Byte) (s : State) : Host.Outcome State Fault Refusal :=
  .next (s.takeRequest .control RequestKind.setSpan.code tag (judgeSetSpan payload))

/-! ### Curves (R49 to R51, R56) -/

/-- R47: the conditions on a list's breakpoints, each seen with the one before it. -/
def risingFrom : Breakpoint → List Breakpoint → Bool
  | _, [] => true
  | p, q :: rest => decide (p.x < q.x) && decide (p.y ≤ q.y) && risingFrom q rest

/-- R47: a valid list. -/
def validCurve (l : List Breakpoint) : Bool :=
  decide (2 ≤ l.length) && decide (l.length ≤ 12) && l.all (fun p => decide (p.x ≤ 100000) && decide (p.y ≤ 10000))
    && (match l with
      | [] => false
      | p :: rest => risingFrom p rest)

/-- R50, R51: a list stored as live in HALTED, else as pending. -/
def Curve.load (c : Curve) (live : Bool) (l : List Breakpoint) : Curve :=
  if live then ⟨l, none⟩ else ⟨c.live, some l⟩

/-- R49 to R51: LOAD_CURVE judged once its breakpoints are read. The mark is 1 for pending, 0 for live (log entry 4). -/
def judgeCurve (number : Byte) (l : List Breakpoint) (s : State) : Answer × State :=
  match readCurveNo number with
  | none => refuse .badValue s
  | some n =>
    if validCurve l then
      let live := decide (s.mode = .halted)
      (.done false (bytes1 n.val ++ bytes1 l.length ++ byteFlag (!live)),
        { s with curves := s.curves.set n ((s.curves.get n).load live l) })
    else refuse .badValue s

/-- R49. -/
def judgeLoadCurve (payload : List Byte) (s : State) : Answer × State :=
  match payload with
  | number :: count :: rest =>
    match readBreakpoints count.toNat rest with
    | some l => judgeCurve number l s
    | none => refuse .badLength s
  | _ => refuse .badLength s

def execLoadCurve (tag : Byte) (payload : List Byte) (s : State) : Host.Outcome State Fault Refusal :=
  .next (s.takeRequest .control RequestKind.loadCurve.code tag (judgeLoadCurve payload))

/-- The data of a READ_CURVE reply (R56). -/
def Curve.data (c : Curve) : List Byte :=
  bytes1 c.live.length ++ c.live.flatMap byteBreakpoint ++ byteFlag c.waiting.isSome

/-- R56. -/
def judgeReadCurve (payload : List Byte) (s : State) : Answer × State :=
  match payload with
  | [number] =>
    match readCurveNo number with
    | some n => answer (s.curves.get n).data s
    | none => refuse .badValue s
  | _ => refuse .badLength s

def execReadCurve (tag : Byte) (payload : List Byte) (s : State) : Host.Outcome State Fault Refusal :=
  .next (s.takeRequest .control RequestKind.readCurve.code tag (judgeReadCurve payload))

end Sys2Proof.Machine
end

