-- ==== Sys2Proof/Machine/FaceRequests.lean ====
section
/-! DEFINITION. Machine/FaceRequests.lean: the requests on faces and on the Fault Monitor's settings (chapters 4 to 6). -/

namespace Sys2Proof.Machine

/-! ### SET_FACE (R88) -/

/-- The fields of a SET_FACE request, in the order R88 gives. -/
structure FaceFields where
  zone : Option Nat
  curve : Option Nat
  trim : Option Nat
  cap : Option Nat
  fullScale : Option Nat
  slewUp : Option Nat
  slewDown : Option Nat
  proof : Option Nat
deriving DecidableEq, Repr

/-- R172: a mask of 1 byte and the present fields. -/
def readFaceFields (mask : Nat) (bs : List Byte) : Option FaceFields :=
  match readFields mask [1, 1, 2, 2, 2, 2, 2, 1] bs with
  | some [a, b, c, d, e, f, g, h] => some ⟨a, b, c, d, e, f, g, h⟩
  | _ => none

/-- R88, tests 2 to 4. -/
def FaceFields.good (f : FaceFields) : Bool :=
  f.zone.all (fun v => decide (v < 8)) && f.curve.all (fun v => decide (v < 8)) && f.proof.all (fun v => (readOnOff v).isSome)

/-- A number below 8, of a field that passed its test. -/
def storeEight (old : Fin 8) : Option Nat → Fin 8
  | none => old
  | some v => if h : v < 8 then ⟨v, h⟩ else old

/-- R88: the configuration after every present field is clamped and stored. -/
def FaceFields.store (f : FaceFields) (c : FaceConfig) : FaceConfig :=
  { c with
    zone := storeEight c.zone f.zone
    curve := storeEight c.curve f.curve
    trim := storeField 128 384 c.trim f.trim
    cap := storeField 0 10000 c.cap f.cap
    fullScale := storeField 1000 10000 c.fullScale f.fullScale
    slewUp := storeField 1 10000 c.slewUp f.slewUp
    slewDown := storeField 1 10000 c.slewDown f.slewDown
    proof := (f.proof.bind readOnOff).getD c.proof }

/-- R88: whether any field was clamped. -/
def FaceFields.clamped (f : FaceFields) : Bool :=
  fieldClamped 128 384 f.trim || fieldClamped 0 10000 f.cap || fieldClamped 1000 10000 f.fullScale
    || fieldClamped 1 10000 f.slewUp || fieldClamped 1 10000 f.slewDown

/-- R88: SET_FACE judged once its fields are read. -/
def judgeFaceFields (face : Byte) (f : FaceFields) (s : State) : Answer × State :=
  if f.good then
    let i := s.span.fold face.toNat
    let c := f.store (s.faces.get i).config
    (.done f.clamped (bytes1 i.val ++ byteFaceConfig c), s.setFaceConfig i c)
  else refuse .badValue s

/-- R88. -/
def judgeSetFace (payload : List Byte) (s : State) : Answer × State :=
  match payload with
  | face :: mask :: rest =>
    match readFaceFields mask.toNat rest with
    | some f => judgeFaceFields face f s
    | none => refuse .badLength s
  | _ => refuse .badLength s

def execSetFace (tag : Byte) (payload : List Byte) (s : State) : Host.Outcome State Fault Refusal :=
  .next (s.takeRequest .control RequestKind.setFace.code tag (judgeSetFace payload))

/-! ### ENABLE, DISABLE and CONDITION (R80, R90) -/

/-- R90: a member's enabled flag set or cleared. -/
def State.setEnabled (members : FaceSet) (flag : Bool) (i : FaceNo) (s : State) : State :=
  if faceIn members i then s.setFaceConfig i { (s.faces.get i).config with enabled := flag } else s

/-- R90. -/
def judgeEnabling (flag : Bool) (payload : List Byte) (s : State) : Answer × State :=
  match payload with
  | [a, b, c, d] =>
    let members := s.span.foldSet (readFaceSet a b c d)
    (.done false (byteFaceSet members), s.eachFace (State.setEnabled members flag))
  | _ => refuse .badLength s

def execEnable (tag : Byte) (payload : List Byte) (s : State) : Host.Outcome State Fault Refusal :=
  .next (s.takeRequest .control RequestKind.enable.code tag (judgeEnabling true payload))

def execDisable (tag : Byte) (payload : List Byte) (s : State) : Host.Outcome State Fault Refusal :=
  .next (s.takeRequest .control RequestKind.disable.code tag (judgeEnabling false payload))

/-- R80: a face conditioned; PATTERN sets its step to 0. -/
def Face.conditioned (f : Face) (c : Conditioning) : Face :=
  { f with
    config := { f.config with conditioning := c }
    dyn := if c = .pattern then { f.dyn with patternStep := 0 } else f.dyn }

def State.conditionFace (members : FaceSet) (c : Conditioning) (i : FaceNo) (s : State) : State :=
  if faceIn members i then s.setFace i ((s.faces.get i).conditioned c) else s

/-- R80. -/
def judgeCondition (payload : List Byte) (s : State) : Answer × State :=
  match payload with
  | [a, b, c, d, code, hi, lo] =>
    let members := s.span.foldSet (readFaceSet a b c d)
    match readConditioning code (readBytes [hi, lo]) with
    | some (.fixed v) =>
      (.done (v != readBytes [hi, lo]) (byteFaceSet members ++ byteFaceSet (members &&& s.claimedSet)),
        s.eachFace (State.conditionFace members (.fixed v)))
    | some cond =>
      (.done false (byteFaceSet members ++ byteFaceSet (members &&& s.claimedSet)), s.eachFace (State.conditionFace members cond))
    | none => refuse .badValue s
  | _ => refuse .badLength s

def execCondition (tag : Byte) (payload : List Byte) (s : State) : Host.Outcome State Fault Refusal :=
  .next (s.takeRequest .control RequestKind.condition.code tag (judgeCondition payload))

/-! ### RESTORE and READ_FACE (R100, R104) -/

/-- R100: a face restored from CUTOFF. -/
def State.restoreFace (s : State) (i : FaceNo) : State :=
  (s.setFaceDyn i { (s.faces.get i).dyn with state := .active, commanded := some 0 }).post (.faceState i .active false)

/-- R100. -/
def judgeRestore (payload : List Byte) (s : State) : Answer × State :=
  match payload with
  | [face] =>
    let i := s.span.fold face.toNat
    let d := (s.faces.get i).dyn
    if d.state = .cutoff ∧ kindIn d.asserted .overbright = false then (.done false [], s.restoreFace i)
    else refuse .wrongState s
  | _ => refuse .badLength s

def execRestore (tag : Byte) (payload : List Byte) (s : State) : Host.Outcome State Fault Refusal :=
  .next (s.takeRequest .control RequestKind.restore.code tag (judgeRestore payload))

/-- The data of a READ_FACE reply (R104). -/
def State.faceData (s : State) (i : FaceNo) : List Byte :=
  let f := s.faces.get i
  let d := f.dyn
  bytes1 i.val ++ byteFaceConfig f.config ++ bytes1 d.state.no ++ bytes1 (s.owner i).no
    ++ byteOption 3 byteCapability d.capability ++ byteOption 2 bytes2 d.commanded ++ byteOption 2 bytes2 d.delivered
    ++ byteOption 3 byteShown d.shown ++ byteOption 1 bytes1 d.stringsOut ++ byteOption 2 bytes2 d.measured
    ++ byteFaceFlags d.flags ++ bytes1 d.patternStep ++ [d.asserted] ++ allKinds.flatMap (fun k => byteRuns (d.runs.get k.no))

/-- R104. -/
def judgeReadFace (payload : List Byte) (s : State) : Answer × State :=
  match payload with
  | [face] => answer (s.faceData (s.span.fold face.toNat)) s
  | _ => refuse .badLength s

def execReadFace (tag : Byte) (payload : List Byte) (s : State) : Host.Outcome State Fault Refusal :=
  .next (s.takeRequest .control RequestKind.readFace.code tag (judgeReadFace payload))

/-! ### SET_PERSIST (R116) -/

/-- R116: a kind's pair after the present values are clamped and stored. -/
def Persistence.store (p : Persistence) (assert clear : Option Nat) : Persistence :=
  ⟨storeField 1 15 p.assert assert, storeField 1 15 p.clear clear⟩

/-- R116. -/
def judgeSetPersist (payload : List Byte) (s : State) : Answer × State :=
  match payload with
  | kind :: mask :: rest =>
    match readFields mask.toNat [1, 1] rest with
    | some [a, c] =>
      match readKind kind with
      | some k =>
        let p := (s.persist.get k.no).store a c
        (.done (fieldClamped 1 15 a || fieldClamped 1 15 c) ([kind] ++ bytes1 p.assert ++ bytes1 p.clear),
          { s with persist := s.persist.set k.no p })
      | none => refuse .badValue s
    | _ => refuse .badLength s
  | _ => refuse .badLength s

def execSetPersist (tag : Byte) (payload : List Byte) (s : State) : Host.Outcome State Fault Refusal :=
  .next (s.takeRequest .control RequestKind.setPersist.code tag (judgeSetPersist payload))

end Sys2Proof.Machine
end

