-- ==== Sys2Proof/Machine/Modes.lean ====
section
/-! DEFINITION. Machine/Modes.lean: the operating modes and the resets (chapter 10): RUN, HALT, RESUME and RESET, what a reset clears
and keeps, and the events of the RESET pin and the supply. -/

namespace Sys2Proof.Machine

/-! ### Changing mode (section 10.2) -/

/-- R159: HALT. -/
def State.takeHalt (s : State) : State :=
  match s.mode with
  | .halting | .halted => s
  | .hold | .running =>
    let s1 := (if s.mode = .hold then s.leaveHold else s).changeMode .halting
    if s1.cycle.isNone then s1.completeHalt else s1

def judgeHalt (payload : List Byte) (s : State) : Answer × State :=
  match payload with
  | [] => (.done false (bytes1 s.takeHalt.mode.no), s.takeHalt)
  | _ => refuse .badLength s

def execHalt (tag : Byte) (payload : List Byte) (s : State) : Host.Outcome State Fault Refusal :=
  .next (s.takeRequest .control RequestKind.halt.code tag (judgeHalt payload))

/-- R160: RUN, outside HOLD. -/
def State.takeRun (s : State) : State :=
  match s.mode with
  | .halted => (s.changeMode .running).cycleStart
  | .halting => s.changeMode .running
  | .running | .hold => s

def judgeRun (payload : List Byte) (s : State) : Answer × State :=
  match payload with
  | [] => if s.mode = .hold then refuse .wrongMode s else (.done false (bytes1 s.takeRun.mode.no), s.takeRun)
  | _ => refuse .badLength s

def execRun (tag : Byte) (payload : List Byte) (s : State) : Host.Outcome State Fault Refusal :=
  .next (s.takeRequest .control RequestKind.run.code tag (judgeRun payload))

/-- R161, step 2: a face still ACTIVE is taken up from its last shown code. -/
def State.takeUpFace (i : FaceNo) (s : State) : State :=
  let f := s.faces.get i
  if f.dyn.state = .active then s.setFaceDyn i (takeUp f.config.fullScale f.dyn) else s

/-- R161: RESUME, taken in HOLD: the cutoffs, the taking-up, the mode. -/
def State.takeResume (s : State) : State := (s.leaveHold.eachFace State.takeUpFace).changeMode .running

def judgeResume (payload : List Byte) (s : State) : Answer × State :=
  match payload with
  | [] => if s.mode = .hold then (.done false (bytes1 s.takeResume.mode.no), s.takeResume) else refuse .wrongMode s
  | _ => refuse .badLength s

def execResume (tag : Byte) (payload : List Byte) (s : State) : Host.Outcome State Fault Refusal :=
  .next (s.takeRequest .control RequestKind.resume.code tag (judgeResume payload))

/-- R164: RESET is answered DONE; the reset follows when the reply has been sent (execReplySent). -/
def judgeReset (payload : List Byte) (s : State) : Answer × State :=
  match payload with
  | [] => answer [] s
  | _ => refuse .badLength s

def execReset (tag : Byte) (payload : List Byte) (s : State) : Host.Outcome State Fault Refusal :=
  .next (s.takeRequest .control RequestKind.reset.code tag (judgeReset payload))

/-! ### Resets (section 10.3) -/

/-- The class of a cause (section 10.3). -/
def ResetCause.cold : ResetCause → Bool
  | .powerOn | .supplyDip => true
  | .pin | .linkRequest => false

/-- R23, R166: the width a cold reset gives every zone. -/
def strapWidth (s : Straps) : Width := if s.width12 then .w12 else .w8

/-- R166: the mode a reset leaves. -/
def strapMode (s : Straps) : Mode := if s.autorun then .running else .hold

/-- R165: what a cold reset returns to its reset values. -/
def State.coldConfiguration (s : State) (w : Width) : State :=
  { s with
    period := 200, retries := 1, span := .s32
    zones := s.zones.map (fun z => { z with config := ZoneConfig.cold w })
    scanPeriod := 250
    curves := Table.replicate 8 Curve.cold
    faces := s.faces.map (fun f => { f with config := FaceConfig.cold })
    persist := Persistence.cold
    curfewStart := 0, curfewEnd := 0, dayClock := none
    holdoff := 0, autosnap := false
    claims := Table.replicate 32 none }

/-- R87: a face after a reset, by its enabled flag. -/
def Face.afterReset (f : Face) : Face :=
  ⟨f.config, FaceDynamic.cleared (if f.config.enabled then .joining else .offline), Counters.zero⟩

/-- R163, R165: what any reset clears: the work in flight and everything the part has learned. -/
def State.clearKnowledge (s : State) : State :=
  { s with
    control := Port.cleared, authority := Port.cleared
    hazard := 0#32, lapsed := 0#32, restarted := true
    scanTimer := none, scan := none, busEnd := []
    sensors := Table.replicate 4 Sensor.cleared
    zones := s.zones.map (fun z => Zone.cleared z.config)
    seconds := 0#16
    faces := s.faces.map Face.afterReset
    cycleTimer := none, overrunWaiting := false, cycle := none
    proofGen := 0x7FFF#15, cycleCount := 0#32
    retriesSent := 0, overruns := 0, snapRetries := 0, snapStamp := none, autoCount := 0
    queue := [], changeSet := 0#32, otherLost := false, holdoffCount := 0 }

/-- R163: a reset begins, or one in progress is extended: a cold cause replaces the cause recorded, a warm one only a warm one. -/
def State.beginReset (s : State) (cause : ResetCause) : State :=
  let recorded := match s.resetLine.cause with
    | some c => if c.cold && !cause.cold then c else cause
    | none => cause
  { s with resetLine := { s.resetLine with cause := some recorded } }.clearKnowledge

/-- R165, R166: a reset completes: state is cleared or kept by class, the straps are read, the RESTART notice is posted, the timers
start afresh and a cycle starts at once. -/
def State.finishReset (s : State) (cause : ResetCause) (straps : Straps) : State :=
  let s1 := (if cause.cold then s.coldConfiguration (strapWidth straps) else s).clearKnowledge
  let s2 := { s1 with
    resetLine := { s1.resetLine with cause := none }
    lastCause := cause
    straps := straps
    mode := strapMode straps
    scanTimer := some s1.scanPeriod }
  (s2.post (.restart cause)).cycleStart

/-- R163: the reset in progress completes when no cause remains. -/
def State.tryFinish (s : State) (straps : Straps) : State :=
  match s.resetLine.cause with
  | some c => if s.resetLine.pinLow = false ∧ s.resetLine.supply = .working then s.finishReset c straps else s
  | none => s

/-- RESET_PIN_LOW (R163); a pin already low raises no new cause. -/
def execResetPinLow (s : State) : Host.Outcome State Fault Refusal :=
  .next (
    if s.resetLine.pinLow then s
    else { s with resetLine := { s.resetLine with pinLow := true } }.beginReset .pin)

/-- RESET_PIN_RELEASE (R163). -/
def execResetPinRelease (straps : Straps) (s : State) : Host.Outcome State Fault Refusal :=
  .next ({ s with resetLine := { s.resetLine with pinLow := false } }.tryFinish straps)

/-- SUPPLY_DIP (R163): a working supply falls below 2.9 V; a supply that is not working does not dip again. -/
def execSupplyDip (s : State) : Host.Outcome State Fault Refusal :=
  .next (
    if s.resetLine.supply = .working then
      { s with resetLine := { s.resetLine with supply := .dipped } }.beginReset .supplyDip
    else s)

/-- SUPPLY_OFF (R163): the supply falls below 1.8 V, and the reset will complete with cause POWER_ON. -/
def execSupplyOff (s : State) : Host.Outcome State Fault Refusal :=
  .next ({ s with resetLine := { s.resetLine with supply := .off } }.beginReset .powerOn)

/-- SUPPLY_RECOVERY (R163): the supply reaches 3.0 V. -/
def execSupplyRecovery (straps : Straps) (s : State) : Host.Outcome State Fault Refusal :=
  .next ({ s with resetLine := { s.resetLine with supply := .working } }.tryFinish straps)

/-- R164: whether a reply is the DONE of a RESET request. -/
def Reply.asksReset (r : Reply) : Bool :=
  match r.answer with
  | .done _ _ => r.kind == RequestKind.reset.code
  | .refused _ => false

/-- REPLY_SENT: the last byte of a link's reply leaves the part and the pending-reply flag is cleared (R168); after the DONE of a
RESET the LINK_REQUEST reset begins and completes at once (R163, R164). -/
def execReplySent (link : Link) (straps : Straps) (s : State) : Host.Outcome State Fault Refusal :=
  .next (
    match (s.port link).reply with
    | some r =>
      let t := s.setPort link { s.port link with reply := none }
      if r.asksReset then (t.beginReset .linkRequest).tryFinish straps else t
    | none => s)

end Sys2Proof.Machine
end

