-- ==== Sys2Proof/Machine/Reports.lean ====
section
/-! DEFINITION. Machine/Reports.lean: the requests on the Counter Bank (chapter 8) and the Notice Queue (chapter 9). -/

namespace Sys2Proof.Machine

/-! ### Counters (R144, R146, R147) -/

/-- R144. The new stamp, which is never absent, is sent as its 2 bytes alone: the model's reading (log entry 4). -/
def judgeSnapshot (payload : List Byte) (s : State) : Answer × State :=
  match payload with
  | [] => (.done false (bytes2 s.seconds.toNat), s.takeSnapshot)
  | _ => refuse .badLength s

def execSnapshot (tag : Byte) (payload : List Byte) (s : State) : Host.Outcome State Fault Refusal :=
  .next (s.takeRequest .control RequestKind.snapshot.code tag (judgeSnapshot payload))

/-- R146: the setting after the request; a change restarts the count. -/
def State.setAutosnap (s : State) (on : Bool) : State :=
  if on = s.autosnap then s else { s with autosnap := on, autoCount := 0 }

def State.autosnapData (s : State) : List Byte := byteFlag s.autosnap ++ bytes1 s.autoCount

/-- R146. -/
def judgeSetAutosnap (payload : List Byte) (s : State) : Answer × State :=
  match payload with
  | [] => answer s.autosnapData s
  | [v] =>
    match readOnOff v.toNat with
    | some on => (.done false (s.setAutosnap on).autosnapData, s.setAutosnap on)
    | none => refuse .badValue s
  | _ => refuse .badLength s

def execSetAutosnap (tag : Byte) (payload : List Byte) (s : State) : Host.Outcome State Fault Refusal :=
  .next (s.takeRequest .control RequestKind.setAutosnap.code tag (judgeSetAutosnap payload))

def byteCounters (c : Counters) : List Byte := bytes2 c.missed ++ bytes2 c.corrupt ++ bytes2 c.echo ++ bytes2 c.cutoffs

/-- The data of a READ_COUNTS reply (R147). -/
def State.countsData (s : State) (i : FaceNo) : List Byte :=
  bytes1 i.val ++ byteCounters (s.faces.get i).snap ++ bytes2 s.snapRetries
    ++ byteOption 2 (fun t : BitVec 16 => bytes2 t.toNat) s.snapStamp

/-- R147. -/
def judgeReadCounts (payload : List Byte) (s : State) : Answer × State :=
  match payload with
  | [face] => answer (s.countsData (s.span.fold face.toNat)) s
  | _ => refuse .badLength s

def execReadCounts (tag : Byte) (payload : List Byte) (s : State) : Host.Outcome State Fault Refusal :=
  .next (s.takeRequest .control RequestKind.readCounts.code tag (judgeReadCounts payload))

/-! ### Notices (R151 to R153) -/

/-- R151: the queue and the hold-off count after a FETCH. -/
def State.takeFetch (s : State) : State := { s with queue := s.queue.drop Config.fetchMax, holdoffCount := s.holdoff }

/-- The data of a FETCH reply (R151, R172). -/
def State.fetchData (s : State) : List Byte :=
  (s.queue.take Config.fetchMax).flatMap byteNotice ++ bytes1 (s.queue.drop Config.fetchMax).length ++ byteFlag s.changesMark

/-- R151. -/
def judgeFetch (payload : List Byte) (s : State) : Answer × State :=
  match payload with
  | [] => (.done false s.fetchData, s.takeFetch)
  | _ => refuse .badLength s

def execFetch (tag : Byte) (payload : List Byte) (s : State) : Host.Outcome State Fault Refusal :=
  .next (s.takeRequest .control RequestKind.fetch.code tag (judgeFetch payload))

/-- R152. -/
def judgeChanges (payload : List Byte) (s : State) : Answer × State :=
  match payload with
  | [] => (.done false (byteFaceSet s.changeSet ++ byteFlag s.otherLost), { s with changeSet := 0#32, otherLost := false })
  | _ => refuse .badLength s

def execChanges (tag : Byte) (payload : List Byte) (s : State) : Host.Outcome State Fault Refusal :=
  .next (s.takeRequest .control RequestKind.changes.code tag (judgeChanges payload))

/-- R153. -/
def judgeSetHoldoff (payload : List Byte) (s : State) : Answer × State :=
  match payload with
  | [] => answer (bytes1 s.holdoff) s
  | [v] =>
    (.done (clamp 0 15 v.toNat != v.toNat) (bytes1 (clamp 0 15 v.toNat)), { s with holdoff := clamp 0 15 v.toNat })
  | _ => refuse .badLength s

def execSetHoldoff (tag : Byte) (payload : List Byte) (s : State) : Host.Outcome State Fault Refusal :=
  .next (s.takeRequest .control RequestKind.setHoldoff.code tag (judgeSetHoldoff payload))

end Sys2Proof.Machine
end

