-- ==== Sys2Proof/Machine/TimeBase.lean ====
section
/-! DEFINITION. Machine/TimeBase.lean: the Time base (sections 2.5, 2.6), the one-second event and what the Claim Table, the Counter
Bank and the Notice Queue do at it (R42, R132, R145, R153), and the settings of time. -/

namespace Sys2Proof.Machine

/-! ### The one-second event -/

/-- R43: the day clock's advance. -/
def nextSecondOfDay (t : Nat) : Nat := if 86399 ≤ t then 0 else t + 1

/-- R132: a claim lapses: its record goes, the OWNER notice is posted with the lapsed mark, and the face joins the lapsed set. -/
def State.lapseClaim (i : FaceNo) (s : State) : State :=
  let s1 := (s.setClaim i none).post (.owner i .operator true)
  { s1 with lapsed := faceInsert s1.lapsed i }

/-- R132: one claim record's second: it counts down, and lapses when its remaining time reaches 0. -/
def State.countClaim (i : FaceNo) (s : State) : State :=
  match s.claims.get i with
  | some c =>
    if c.remaining = 0 then s
    else if c.remaining = 1 then s.lapseClaim i
    else s.setClaim i (some { c with remaining := c.remaining - 1 })
  | none => s

/-- R132: the Claim Table takes the one-second event, in ascending order of face number. -/
def State.claimsSecond (s : State) : State := s.eachFace State.countClaim

/-- R145: an automatic snapshot falls. -/
def State.autoSnapshotNow (s : State) : State := ({ s with autoCount := 0 }.takeSnapshot).post .snapshot

/-- R145: whether the next one-second event brings the auto-snapshot count to 60. -/
def State.autoSnapshotDue (s : State) : Bool := s.autosnap && decide (60 ≤ s.autoCount + 1)

/-- R145: the Counter Bank takes the one-second event. -/
def State.bankSecond (s : State) : State :=
  if s.autosnap then
    if s.autoSnapshotDue then s.autoSnapshotNow else { s with autoCount := s.autoCount + 1 }
  else s

/-- R132: whether some claim lapses at the next one-second event. -/
def State.lapseDue (s : State) : Bool :=
  allFaces.any (fun i =>
    match s.claims.get i with
    | some c => c.remaining == 1
    | none => false)

/-- The Claim Table and the Counter Bank take the one-second event. Their notices reach the queue in either order (R149): where both
post, a free choice says which comes first (log entry 6). -/
def State.claimsAndBankSecond (s : State) : State :=
  if s.lapseDue && s.autoSnapshotDue then
    let t := { s with freeChoices := s.freeChoices + 1 }
    if Config.bankTakesSecondFirst s.freeChoices then t.bankSecond.claimsSecond else t.claimsSecond.bankSecond
  else s.claimsSecond.bankSecond

/-- R153: the Notice Queue takes the one-second event. -/
def State.holdoffSecond (s : State) : State := { s with holdoffCount := s.holdoffCount - 1 }

/-- ONE_SECOND_EVENT (R42): the seconds counter rises before any block takes the event; a reset in progress raises none. -/
def execOneSecondEvent (s : State) : Host.Outcome State Fault Refusal :=
  .next (
    if s.resetting then s
    else
      let s1 := { s with seconds := s.seconds + 1#16, dayClock := s.dayClock.map nextSecondOfDay }
      s1.claimsAndBankSecond.holdoffSecond)

/-! The three rows that name what falls within a one-second event (log entry 7): each makes its own effect when its moment has come,
and changes nothing otherwise. ONE_SECOND_EVENT makes them all itself. -/

/-- CLAIM_LAPSE (R132): the claim of `face`, at its last second, reaches 0. -/
def execClaimLapse (face : FaceNo) (s : State) : Host.Outcome State Fault Refusal :=
  .next (
    match s.claims.get face with
    | some c => if c.remaining = 1 ∧ s.resetting = false then s.lapseClaim face else s
    | none => s)

/-- AUTO_SNAPSHOT (R145): the auto-snapshot count, at 59 with the setting on, reaches 60. -/
def execAutoSnapshot (s : State) : Host.Outcome State Fault Refusal :=
  .next (if s.autoSnapshotDue && !s.resetting then s.autoSnapshotNow else s)

/-- HOLDOFF_EXPIRY (R153): the hold-off count, at 1, reaches 0; ATTN follows (R154). -/
def execHoldoffExpiry (s : State) : Host.Outcome State Fault Refusal :=
  .next (if s.holdoffCount = 1 then { s with holdoffCount := 0 } else s)

/-! ### The settings of time (R27, R44, R45) -/

/-- R44: a SET_TIME that sets the clock is answered with the value stored, 3 bytes; an empty one with the clock, which may be unset. -/
def judgeSetTime (payload : List Byte) (s : State) : Answer × State :=
  match payload with
  | [] => answer (byteOption 3 bytes3 s.dayClock) s
  | [a, b, c] =>
    let v := readBytes [a, b, c]
    if 86399 < v then refuse .badValue s
    else (.done false (bytes3 v), { s with dayClock := some v })
  | _ => refuse .badLength s

def execSetTime (tag : Byte) (payload : List Byte) (s : State) : Host.Outcome State Fault Refusal :=
  .next (s.takeRequest .control RequestKind.setTime.code tag (judgeSetTime payload))

/-- R45. -/
def judgeSetCurfew (payload : List Byte) (s : State) : Answer × State :=
  match payload with
  | [] => answer (bytes3 s.curfewStart ++ bytes3 s.curfewEnd) s
  | [a, b, c, d, e, f] =>
    let v := readBytes [a, b, c]
    let w := readBytes [d, e, f]
    let v' := clamp 0 86399 v
    let w' := clamp 0 86399 w
    (.done (v' != v || w' != w) (bytes3 v' ++ bytes3 w'), { s with curfewStart := v', curfewEnd := w' })
  | _ => refuse .badLength s

def execSetCurfew (tag : Byte) (payload : List Byte) (s : State) : Host.Outcome State Fault Refusal :=
  .next (s.takeRequest .control RequestKind.setCurfew.code tag (judgeSetCurfew payload))

/-- R27: brought down onto the 50 ms step, then clamped. -/
def scanPeriodOf (v : Nat) : Nat := clamp 100 1000 (v / 50 * 50)

/-- R27. -/
def judgeSetScan (payload : List Byte) (s : State) : Answer × State :=
  match payload with
  | [] => answer (bytes2 s.scanPeriod) s
  | [a, b] =>
    let v := readBytes [a, b]
    (.done (scanPeriodOf v != v) (bytes2 (scanPeriodOf v)), { s with scanPeriod := scanPeriodOf v })
  | _ => refuse .badLength s

def execSetScan (tag : Byte) (payload : List Byte) (s : State) : Host.Outcome State Fault Refusal :=
  .next (s.takeRequest .control RequestKind.setScan.code tag (judgeSetScan payload))

end Sys2Proof.Machine
end

