-- ==== Sys2Proof/Machine/LinkPort.lean ====
section
/-! DEFINITION. Machine/LinkPort.lean: a link port's reception of a frame byte by byte (R167), and the handing on of a complete good
frame as a request (R168, R169). -/

namespace Sys2Proof.Machine

/-- The judgement that owns a request (section 11.5). -/
def judgeKind (kind : RequestKind) : List Byte → State → Answer × State :=
  match kind with
  | .ping => judgePing
  | .status => judgeStatus
  | .reset => judgeReset
  | .run => judgeRun
  | .halt => judgeHalt
  | .resume => judgeResume
  | .setTime => judgeSetTime
  | .setCurfew => judgeSetCurfew
  | .setScan => judgeSetScan
  | .setZone => judgeSetZone
  | .readZone => judgeReadZone
  | .readSensor => judgeReadSensor
  | .setCycle => judgeSetCycle
  | .setRetries => judgeSetRetries
  | .setSpan => judgeSetSpan
  | .loadCurve => judgeLoadCurve
  | .readCurve => judgeReadCurve
  | .setFace => judgeSetFace
  | .enable => judgeEnabling true
  | .disable => judgeEnabling false
  | .condition => judgeCondition
  | .restore => judgeRestore
  | .readFace => judgeReadFace
  | .setPersist => judgeSetPersist
  | .snapshot => judgeSnapshot
  | .setAutosnap => judgeSetAutosnap
  | .readCounts => judgeReadCounts
  | .fetch => judgeFetch
  | .changes => judgeChanges
  | .setHoldoff => judgeSetHoldoff
  | .authStatus => judgeAuthStatus
  | .authReadFace => judgeAuthReadFace
  | .claim => judgeClaim
  | .release => judgeRelease

/-- The requests of section 11.5's table, in its order. -/
def allRequests : List RequestKind :=
  [.ping, .status, .reset, .run, .halt, .resume, .setTime, .setCurfew, .setScan, .setZone, .readZone, .readSensor, .setCycle,
    .setRetries, .setSpan, .loadCurve, .readCurve, .setFace, .enable, .disable, .condition, .restore, .readFace, .setPersist,
    .snapshot, .setAutosnap, .readCounts, .fetch, .changes, .setHoldoff, .authStatus, .authReadFace, .claim, .release]

/-- R169, test 1: the request a kind code names on a link. -/
def requestOf (l : Link) (kind : Byte) : Option RequestKind :=
  allRequests.find? (fun k => k.link == l && k.code == kind)

/-- R169: the judgement of a frame by its kind code. -/
def judgeFrame (l : Link) (kind : Byte) (payload : List Byte) (s : State) : Answer × State :=
  match requestOf l kind with
  | some k => judgeKind k payload s
  | none => refuse .unknownKind s

/-- The port's receiver replaced. -/
def State.setReceiver (s : State) (l : Link) (r : Receiver) : State := s.setPort l { s.port l with receiver := r }

/-- R167: a frame's complete bytes, from the length to the CRC: a good CRC hands kind, tag and payload on, a bad one discards it. The
port is waiting again in either case. -/
def State.frameComplete (s : State) (l : Link) (bytes : List Byte) : State :=
  let t := s.setReceiver l .waiting
  let body := bytes.take (bytes.length - 2)
  if crcBytes (crcOf body) = bytes.drop (bytes.length - 2) then
    match body with
    | _ :: kind :: tag :: payload => t.takeRequest l kind tag (judgeFrame l kind payload)
    | _ => t.discardFrame l
  else t.discardFrame l

/-- R167: a byte of the frame being received: the length byte is judged at once, and the frame is complete at the last CRC byte. -/
def State.frameByte (s : State) (l : Link) (taken : List Byte) (byte : Byte) : State :=
  match taken with
  | [] =>
    if byte.toNat < 2 ∨ 200 < byte.toNat then (s.setReceiver l .waiting).discardFrame l
    else s.setReceiver l (.receiving [byte])
  | n :: _ =>
    if taken.length + 1 < n.toNat + 3 then s.setReceiver l (.receiving (taken ++ [byte]))
    else s.frameComplete l (taken ++ [byte])

/-- LINK_BYTE_RECEIVED (R167); a reset in progress receives nothing (R163). -/
def execLinkByteReceived (link : Link) (byte : Byte) (framingError : Bool) (s : State) : Host.Outcome State Fault Refusal :=
  .next (
    if s.resetting then s
    else
      match (s.port link).receiver with
      | .waiting =>
        if byte = Config.linkStart ∧ framingError = false then s.setReceiver link (.receiving []) else s
      | .receiving taken =>
        if framingError then (s.setReceiver link .waiting).discardFrame link else s.frameByte link taken byte)

/-- LINK_FRAME_TIMEOUT (R167): a gap of more than 5 ms inside a frame ends it. -/
def execLinkFrameTimeout (link : Link) (s : State) : Host.Outcome State Fault Refusal :=
  .next (
    match (s.port link).receiver with
    | .waiting => s
    | .receiving _ => (s.setReceiver link .waiting).discardFrame link)

end Sys2Proof.Machine
end

