-- ==== Sys2Proof/Machine/Dispatch.lean ====
section
/-! DEFINITION. Machine/Dispatch.lean: each command's meaning, one arm per row of spec/opcode_table.json. -/

namespace Sys2Proof.Machine

def exec (i : Instr) (s : State) : Host.Outcome State Fault Refusal :=
  match i with
  | .ping tag payload => Sys2Proof.Machine.execPing tag payload s
  | .status tag payload => Sys2Proof.Machine.execStatus tag payload s
  | .reset tag payload => Sys2Proof.Machine.execReset tag payload s
  | .run tag payload => Sys2Proof.Machine.execRun tag payload s
  | .halt tag payload => Sys2Proof.Machine.execHalt tag payload s
  | .resume tag payload => Sys2Proof.Machine.execResume tag payload s
  | .setTime tag payload => Sys2Proof.Machine.execSetTime tag payload s
  | .setCurfew tag payload => Sys2Proof.Machine.execSetCurfew tag payload s
  | .setScan tag payload => Sys2Proof.Machine.execSetScan tag payload s
  | .setZone tag payload => Sys2Proof.Machine.execSetZone tag payload s
  | .readZone tag payload => Sys2Proof.Machine.execReadZone tag payload s
  | .readSensor tag payload => Sys2Proof.Machine.execReadSensor tag payload s
  | .setCycle tag payload => Sys2Proof.Machine.execSetCycle tag payload s
  | .setRetries tag payload => Sys2Proof.Machine.execSetRetries tag payload s
  | .setSpan tag payload => Sys2Proof.Machine.execSetSpan tag payload s
  | .loadCurve tag payload => Sys2Proof.Machine.execLoadCurve tag payload s
  | .readCurve tag payload => Sys2Proof.Machine.execReadCurve tag payload s
  | .setFace tag payload => Sys2Proof.Machine.execSetFace tag payload s
  | .enable tag payload => Sys2Proof.Machine.execEnable tag payload s
  | .disable tag payload => Sys2Proof.Machine.execDisable tag payload s
  | .condition tag payload => Sys2Proof.Machine.execCondition tag payload s
  | .restore tag payload => Sys2Proof.Machine.execRestore tag payload s
  | .readFace tag payload => Sys2Proof.Machine.execReadFace tag payload s
  | .setPersist tag payload => Sys2Proof.Machine.execSetPersist tag payload s
  | .snapshot tag payload => Sys2Proof.Machine.execSnapshot tag payload s
  | .setAutosnap tag payload => Sys2Proof.Machine.execSetAutosnap tag payload s
  | .readCounts tag payload => Sys2Proof.Machine.execReadCounts tag payload s
  | .fetch tag payload => Sys2Proof.Machine.execFetch tag payload s
  | .changes tag payload => Sys2Proof.Machine.execChanges tag payload s
  | .setHoldoff tag payload => Sys2Proof.Machine.execSetHoldoff tag payload s
  | .authStatus tag payload => Sys2Proof.Machine.execAuthStatus tag payload s
  | .authReadFace tag payload => Sys2Proof.Machine.execAuthReadFace tag payload s
  | .claim tag payload => Sys2Proof.Machine.execClaim tag payload s
  | .release tag payload => Sys2Proof.Machine.execRelease tag payload s
  | .linkByteReceived link byte framingError => Sys2Proof.Machine.execLinkByteReceived link byte framingError s
  | .linkFrameTimeout link => Sys2Proof.Machine.execLinkFrameTimeout link s
  | .replySent link straps => Sys2Proof.Machine.execReplySent link straps s
  | .cycleTimerExpiry => Sys2Proof.Machine.execCycleTimerExpiry s
  | .chainFrameSent => Sys2Proof.Machine.execChainFrameSent s
  | .replyWindowExpiry => Sys2Proof.Machine.execReplyWindowExpiry s
  | .chainByteReceived byte => Sys2Proof.Machine.execChainByteReceived byte s
  | .chainReplyGapTimeout => Sys2Proof.Machine.execChainReplyGapTimeout s
  | .scanTimerExpiry => Sys2Proof.Machine.execScanTimerExpiry s
  | .sensorPollEnd result => Sys2Proof.Machine.execSensorPollEnd result s
  | .sensorPollTimeout => Sys2Proof.Machine.execSensorPollTimeout s
  | .oneSecondEvent => Sys2Proof.Machine.execOneSecondEvent s
  | .claimLapse face => Sys2Proof.Machine.execClaimLapse face s
  | .autoSnapshot => Sys2Proof.Machine.execAutoSnapshot s
  | .holdoffExpiry => Sys2Proof.Machine.execHoldoffExpiry s
  | .resetPinLow => Sys2Proof.Machine.execResetPinLow s
  | .resetPinRelease straps => Sys2Proof.Machine.execResetPinRelease straps s
  | .supplyDip => Sys2Proof.Machine.execSupplyDip s
  | .supplyOff => Sys2Proof.Machine.execSupplyOff s
  | .supplyRecovery straps => Sys2Proof.Machine.execSupplyRecovery straps s

end Sys2Proof.Machine
end

