-- ==== Sys2Proof/Safety.lean ====
section
/-! DEFINITION. Safety.lean: the words the statements are written in: the state after an answer, the fields of payloads and replies
as R172 and R173 lay them out, the state a reset leaves by R165's table, and the invariants that every step keeps. -/

namespace Sys2Proof.Machine

/-! ### Requests and replies -/

/-- R168: a request on link `l` is taken: no reset is in progress and no reply is pending there. -/
abbrev State.takes (s : State) (l : Link) : Prop := s.resetting = false ∧ (s.port l).reply = none

/-- `s` with the reply to a request set on its way on the request's link. -/
def State.answered (s : State) (kind : RequestKind) (tag : Byte) (a : Answer) : State :=
  s.setPort kind.link { s.port kind.link with reply := some ⟨kind.code, tag, a⟩ }

/-- R167, R168: `s` with one more frame counted as discarded on link `l`, up to 255, and the port waiting again. -/
def State.discarded (s : State) (l : Link) : State :=
  s.setPort l { s.port l with receiver := .waiting, errors := min 255 ((s.port l).errors + 1) }

/-- The bytes of a frame arriving one after the other on a link, without framing errors. -/
def feedLink (l : Link) : List Byte → State → Host.Outcome State Fault Refusal
  | [], s => .next s
  | b :: bs, s =>
    match exec (.linkByteReceived l b false) s with
    | .next t => feedLink l bs t
    | o => o

/-- The bytes of a reply arriving one after the other on the chain. -/
def feedChain : List Byte → State → Host.Outcome State Fault Refusal
  | [], s => .next s
  | b :: bs, s =>
    match exec (.chainByteReceived b) s with
    | .next t => feedChain bs t
    | o => o

/-! ### Fields of a payload (R172): most significant byte first -/

def word2 (a b : Byte) : Nat := 256 * a.toNat + b.toNat
def word3 (a b c : Byte) : Nat := 65536 * a.toNat + 256 * b.toNat + c.toNat

/-- A face set of four bytes, the first byte holding faces 31 to 24. -/
def mask4 (a b c d : Byte) : FaceSet := BitVec.ofNat 32 (16777216 * a.toNat + 65536 * b.toNat + 256 * c.toNat + d.toNat)

/-- A presence mask: bit k is set when the k-th field is present. -/
def presence : List (Option Nat) → Nat
  | [] => 0
  | f :: fs => (if f.isSome then 1 else 0) + 2 * presence fs

/-- A field of `n` bytes, most significant first. -/
def fieldBytes : Nat → Nat → List Byte
  | 0, _ => []
  | n + 1, v => BitVec.ofNat 8 (v / 256 ^ n) :: fieldBytes n v

/-- The present fields one after the other, each in its own number of bytes. -/
def presentBytes : List Nat → List (Option Nat) → List Byte
  | n :: ns, some v :: fs => fieldBytes n v ++ presentBytes ns fs
  | _ :: ns, none :: fs => presentBytes ns fs
  | _, _ => []

/-- Every present field fits its bytes. -/
def fieldsFit : List Nat → List (Option Nat) → Bool
  | n :: ns, f :: fs => f.all (fun v => decide (v < 256 ^ n)) && fieldsFit ns fs
  | [], [] => true
  | _, _ => false

/-- How many bytes the fields that a mask marks take. -/
def markedBytes : List Nat → Nat → Nat
  | [], _ => 0
  | n :: ns, mask => (if mask % 2 = 1 then n else 0) + markedBytes ns (mask / 2)

/-- The ten fields of R38's table and the eight of R88, as lists, with their bytes. -/
def ZoneFields.list (f : ZoneFields) : List (Option Nat) :=
  [f.primary, f.secondary, f.fallback, f.rising, f.falling, f.zoneCap, f.curfewCap, f.width, f.extension, f.dmax]
def zoneSizes : List Nat := [1, 1, 3, 1, 1, 2, 2, 1, 1, 1]
def FaceFields.list (f : FaceFields) : List (Option Nat) :=
  [f.zone, f.curve, f.trim, f.cap, f.fullScale, f.slewUp, f.slewDown, f.proof]
def faceSizes : List Nat := [1, 1, 2, 2, 2, 2, 2, 1]

/-- A SET_ZONE payload that carries these fields, `spare` being the six mask bits above the last field; and a SET_FACE payload, whose
mask has none to spare. -/
def zonePayload (zone : Byte) (spare : Nat) (f : ZoneFields) : List Byte :=
  zone :: fieldBytes 2 (presence f.list + 1024 * spare) ++ presentBytes zoneSizes f.list
def facePayload (face : Byte) (f : FaceFields) : List Byte :=
  face :: fieldBytes 1 (presence f.list) ++ presentBytes faceSizes f.list

/-- A SET_PERSIST payload that carries these two fields, `spare` being the six mask bits above them. -/
def persistPayload (kind : Byte) (spare : Nat) (assert clear : Option Nat) : List Byte :=
  kind :: fieldBytes 1 (presence [assert, clear] + 4 * spare) ++ presentBytes [1, 1] [assert, clear]

/-- A LOAD_CURVE payload: the curve number, the count and the breakpoints. -/
def curvePayload (number : Byte) (l : List Breakpoint) : List Byte :=
  number :: BitVec.ofNat 8 l.length :: l.flatMap (fun p => fieldBytes 3 p.x ++ fieldBytes 2 p.y)

/-! ### Reply data (R172), field by field -/

def flagByte (b : Bool) : Byte := if b then 1#8 else 0#8

/-- A value that may be absent: 0 and zeros, or 1 and the value. -/
def maybeBytes (n : Nat) : Option Nat → List Byte
  | none => List.replicate (n + 1) 0#8
  | some v => 1#8 :: fieldBytes n v

/-- A face set: four bytes. -/
def setBytes (m : FaceSet) : List Byte := fieldBytes 4 m.toNat

def Mode.code : Mode → Byte
  | .hold => 0#8 | .running => 1#8 | .halting => 2#8 | .halted => 3#8
def ResetCause.code : ResetCause → Byte
  | .powerOn => 0#8 | .supplyDip => 1#8 | .pin => 2#8 | .linkRequest => 3#8
def FaceState.code : FaceState → Byte
  | .offline => 0#8 | .joining => 1#8 | .active => 2#8 | .cutoff => 3#8
def Health.code : Health → Byte
  | .unused => 0#8 | .doubtful => 1#8 | .good => 2#8 | .failed => 3#8
def Source.code : Source → Byte
  | .sensors => 0#8 | .fallback => 1#8
def Width.byte : Width → Byte
  | .w8 => 8#8 | .w12 => 12#8
def Conditioning.code : Conditioning → Byte
  | .normal => 0#8 | .fixed _ => 1#8 | .blank => 2#8 | .pattern => 3#8
def ClaimMode.code : ClaimMode → Byte
  | .blank => 0#8 | .cap _ => 1#8
/-- Log entry 4: AUTHORITY 0, OPERATOR 1. -/
def Owner.code : Owner → Byte
  | .authority => 0#8 | .operator => 1#8

/-- The level held with FIXED, absent with the other conditionings (R79). -/
def Conditioning.level : Conditioning → Option Nat
  | .fixed v => some v
  | .normal | .blank | .pattern => none

/-- The cap level of a claim, absent with BLANK (R128). -/
def ClaimMode.level : ClaimMode → Option Nat
  | .blank => none
  | .cap v => some v

/-- A zone's configuration, in the order of R38's table. -/
def ZoneConfig.layout (c : ZoneConfig) : List Byte :=
  [BitVec.ofNat 8 ((c.naming.primary.map Fin.val).getD 255), BitVec.ofNat 8 ((c.naming.secondary.map Fin.val).getD 255)]
    ++ fieldBytes 3 c.fallback ++ fieldBytes 1 c.rising ++ fieldBytes 1 c.falling ++ fieldBytes 2 c.zoneCap
    ++ fieldBytes 2 c.curfewCap ++ [c.width.byte] ++ fieldBytes 1 c.extension ++ fieldBytes 1 c.dmax

/-- A face's configuration, in the order of R86's table. -/
def FaceConfig.layout (c : FaceConfig) : List Byte :=
  [flagByte c.enabled] ++ fieldBytes 1 c.zone.val ++ fieldBytes 1 c.curve.val ++ fieldBytes 2 c.trim ++ fieldBytes 2 c.cap
    ++ fieldBytes 2 c.fullScale ++ fieldBytes 2 c.slewUp ++ fieldBytes 2 c.slewDown ++ [flagByte c.proof, c.conditioning.code]
    ++ maybeBytes 2 c.conditioning.level

/-- R128: a face's owner follows its claim record. -/
def State.ownerCode (s : State) (i : FaceNo) : Byte :=
  match s.claims.get i with
  | some _ => Owner.authority.code
  | none => Owner.operator.code

/-- R104: the data of a READ_FACE reply, with log entry 4's encodings of a shown code and of the face flags. -/
def State.faceLayout (s : State) (i : FaceNo) : List Byte :=
  let d := (s.faces.get i).dyn
  fieldBytes 1 i.val ++ (s.faces.get i).config.layout ++ [d.state.code, s.ownerCode i]
    ++ (match d.capability with
      | none => [0#8, 0#8, 0#8, 0#8]
      | some c => [1#8, c.maxWidth.byte, flagByte c.photometer] ++ fieldBytes 1 c.strings)
    ++ maybeBytes 2 d.commanded ++ maybeBytes 2 d.delivered
    ++ (match d.shown with
      | none => [0#8, 0#8, 0#8, 0#8]
      | some c => [1#8] ++ fieldBytes 2 c.code ++ [c.width.byte])
    ++ maybeBytes 1 d.stringsOut ++ maybeBytes 2 d.measured
    ++ [flagByte d.flags.power, flagByte d.flags.thermal, flagByte d.flags.door] ++ fieldBytes 1 d.patternStep ++ [d.asserted]
    ++ (List.finRange 8).flatMap (fun k => fieldBytes 1 (d.runs.get k).present ++ fieldBytes 1 (d.runs.get k).absent)

/-- R135: the data of an AUTH_READ_FACE reply. -/
def State.authorityLayout (s : State) (i : FaceNo) : List Byte :=
  let d := (s.faces.get i).dyn
  fieldBytes 1 i.val ++ [d.state.code, s.ownerCode i]
    ++ (match s.claims.get i with
      | none => List.replicate 8 0#8
      | some c => [1#8, c.mode.code] ++ maybeBytes 2 c.mode.level ++ fieldBytes 3 c.remaining)
    ++ maybeBytes 2 d.commanded ++ maybeBytes 2 d.delivered ++ [d.asserted]

/-- R172: the 7 bytes of a notice entry. -/
def Notice.layout (n : Notice) : List Byte :=
  (match n.body with
    | .restart c => [0#8, 0#8, 0#8, c.code, 0#8]
    | .mode m => [1#8, 0#8, 0#8, m.code, 0#8]
    | .faceFault f a => [2#8, 1#8, BitVec.ofNat 8 f.val, a, 0#8]
    | .faceState f st r => [3#8, 1#8, BitVec.ofNat 8 f.val, st.code, flagByte r]
    | .owner f o l => [4#8, 1#8, BitVec.ofNat 8 f.val, o.code, flagByte l]
    | .sensor k h => [5#8, 1#8, BitVec.ofNat 8 k.val, h.code, 0#8]
    | .zone z src d => [6#8, 1#8, BitVec.ofNat 8 z.val, src.code, flagByte d]
    | .overrun => [7#8, 0#8, 0#8, 0#8, 0#8]
    | .snapshot => [8#8, 0#8, 0#8, 0#8, 0#8])
    ++ fieldBytes 2 n.stamp.toNat

/-! ### Requests on sets of faces (R20) -/

/-- R20: the set of the members reduced modulo the span. -/
def State.folded (s : State) (m : FaceSet) : FaceSet :=
  faceSetOf (fun j => decide (∃ i : FaceNo, m.getLsbD i.val = true ∧ i.val % s.span.size = j.val))

/-- The faces that hold a claim record. -/
def State.claimed (s : State) : FaceSet := faceSetOf (fun i => (s.claims.get i).isSome)

/-! ### The faces' replies (R173) -/

/-- The flags byte of a STATUS. -/
def StatusReply.flagsByte (r : StatusReply) : Byte :=
  BitVec.ofNat 8
    ((if r.shown.width = .w12 then 1 else 0) + (if r.flags.power then 2 else 0) + (if r.flags.thermal then 4 else 0)
      + (if r.flags.door then 8 else 0) + (if r.stringsOut.isSome then 16 else 0) + (if r.measured.isSome then 32 else 0)
      + (if r.echo.isSome then 64 else 0))

/-- The kind and payload of a reply. The flag bits that R173 gives no meaning stand as in `spare` (log entry 4). -/
def FaceReply.body (spare : Byte) : FaceReply → List Byte
  | .status r =>
    [0x81#8, r.flagsByte ||| (spare &&& 0x80#8)] ++ fieldBytes 2 r.shown.code
      ++ presentBytes [1, 2, 2] [r.stringsOut, r.measured, r.echo.map BitVec.toNat]
  | .identity r =>
    [0x82#8, BitVec.ofNat 8 ((if r.maxWidth = .w12 then 1 else 0) + (if r.photometer then 2 else 0)) ||| (spare &&& 0xFC#8),
      BitVec.ofNat 8 r.strings] ++ fieldBytes 2 r.code

/-- The numbers of a reply fit their fields. -/
def FaceReply.fits : FaceReply → Bool
  | .status r => decide (r.shown.code < 65536) && r.stringsOut.all (fun v => decide (v < 256)) && r.measured.all (fun v => decide (v < 65536))
  | .identity r => decide (r.strings < 256) && decide (r.code < 65536)

/-- A frame on the chain: start byte, address, kind and payload, CRC. -/
def chainFrame (address : Byte) (body : List Byte) : List Byte :=
  0x5C#8 :: (address :: body) ++ crcBytes (crcOf (address :: body))

/-- `rest` is what is still to come of a frame arriving in a window: all of it while no reply has begun, else what follows its start byte
and the bytes already taken, which is at least one byte. -/
abbrev stillToCome (taken : Option (List Byte)) (frame rest : List Byte) : Prop :=
  match taken with
  | none => rest = frame
  | some before => frame = 0x5C#8 :: (before ++ rest) ∧ rest ≠ []

/-! ### What a reset leaves (R165) -/

/-- The slot in which a JOINING face is sent IDENT for the first time. -/
def State.identSlot (s : State) (i : FaceNo) : Slot :=
  { face := i, frame := .ident, wrote := none, extension := (s.zones.get (s.faces.get i).config.zone).config.extension,
    dmax := (s.zones.get (s.faces.get i).config.zone).config.dmax, permitted := 1 + s.retries, outcomes := [], attempt := .sending }

/-- The cycle that a reset starts at once: the enabled faces below the span, or none. -/
def State.joinCycle (s : State) : Option Cycle :=
  match allFaces.filter (fun i => decide (i.val < s.span.size) && (s.faces.get i).config.enabled) with
  | [] => none
  | i :: todo => some ⟨[], s.identSlot i, todo⟩

/-- R165, column "after a warm reset": `s` once a reset of `cause` has completed, before any later event. Everything not named is
kept. -/
def State.afterWarm (s : State) (cause : ResetCause) (straps : Straps) : State :=
  { s with
    mode := if straps.autorun then .running else .hold
    lastCause := cause
    resetLine := { s.resetLine with cause := none }
    straps := straps
    control := ⟨.waiting, none, 0⟩
    authority := ⟨.waiting, none, 0⟩
    hazard := 0#32, lapsed := 0#32, restarted := true
    scanTimer := some s.scanPeriod, scan := none, busEnd := []
    sensors := Table.replicate 4 ⟨.unused, 0, 0, none⟩
    zones := s.zones.map (fun z => ⟨z.config, z.config.fallback, .fallback, false⟩)
    seconds := 0#16
    curves := s.curves.map (fun c => ⟨c.waiting.getD c.live, none⟩)
    faces := s.faces.map (fun f =>
      ⟨f.config, FaceDynamic.cleared (if f.config.enabled then .joining else .offline), ⟨0, 0, 0, 0⟩⟩)
    cycleTimer := some s.period, overrunWaiting := false, cycle := s.joinCycle
    proofGen := 0x7FFF#15, cycleCount := 1#32
    retriesSent := 0, overruns := 0, snapRetries := 0, snapStamp := none, autoCount := 0
    queue := [⟨.restart cause, 0#16⟩], changeSet := 0#32, otherLost := false, holdoffCount := 0 }

/-- R165, column "after a cold reset": the whole part once a reset of `cause` has completed; nothing of the state before is left but
the model's own two fields. -/
def State.afterCold (s : State) (cause : ResetCause) (straps : Straps) : State :=
  { State.reset with
    mode := if straps.autorun then .running else .hold
    lastCause := cause
    straps := straps
    zones := Table.replicate 8
      ⟨{ naming := ⟨none, none⟩, fallback := 400, rising := 2, falling := 12, zoneCap := 10000, curfewCap := 350,
         width := if straps.width12 then .w12 else .w8, extension := 0, dmax := 2 }, 400, .fallback, false⟩
    queue := [⟨.restart cause, 0#16⟩]
    freeChoices := s.freeChoices
    pending := s.pending }

/-- R163: `s` while a reset is in progress, its reset line being `line`: the work in flight is abandoned and the links are silent.
What every reset clears at its completion is cleared here already (log entry 9). -/
def State.silenced (s : State) (line : ResetLine) : State :=
  { s with
    resetLine := line
    control := ⟨.waiting, none, 0⟩
    authority := ⟨.waiting, none, 0⟩
    hazard := 0#32, lapsed := 0#32, restarted := true
    scanTimer := none, scan := none, busEnd := []
    sensors := Table.replicate 4 ⟨.unused, 0, 0, none⟩
    zones := s.zones.map (fun z => ⟨z.config, z.config.fallback, .fallback, false⟩)
    seconds := 0#16
    faces := s.faces.map (fun f =>
      ⟨f.config, FaceDynamic.cleared (if f.config.enabled then .joining else .offline), ⟨0, 0, 0, 0⟩⟩)
    cycleTimer := none, overrunWaiting := false, cycle := none
    proofGen := 0x7FFF#15, cycleCount := 0#32
    retriesSent := 0, overruns := 0, snapRetries := 0, snapStamp := none, autoCount := 0
    queue := [], changeSet := 0#32, otherLost := false, holdoffCount := 0 }

/-- R163: the cause that a reset records once `cause` has arisen, `before` being the cause of the reset in progress, if one is: the
latest cold cause if any was cold, else the latest. -/
def causeAfter (before : Option ResetCause) (cause : ResetCause) : ResetCause :=
  match before, cause with
  | some .powerOn, .pin | some .powerOn, .linkRequest => .powerOn
  | some .supplyDip, .pin | some .supplyDip, .linkRequest => .supplyDip
  | _, c => c

/-! ### Notices -/

/-- Notices posted one after the other. -/
def State.postAll (s : State) (bs : List NoticeBody) : State := bs.foldl State.post s

/-- A face's records as the snapshot of R143 leaves them. -/
def Face.snapshotted (f : Face) : Face := { f with snap := f.dyn.live, dyn := { f.dyn with live := ⟨0, 0, 0, 0⟩ } }

/-! ### Fields stored, cutoffs on leaving HOLD, faces taken up -/

/-- A numeric field as stored: the value brought onto its range when present, the old one when absent. -/
def stored (lo hi old : Nat) (f : Option Nat) : Nat := (f.map (fun v => max lo (min v hi))).getD old

/-- Whether a numeric field lies outside its range, so that it is clamped. -/
def outside (lo hi : Nat) (f : Option Nat) : Bool := f.any (fun v => decide (v < lo) || decide (hi < v))

/-- R38, R39: a zone's configuration after the present fields have been stored. -/
def ZoneConfig.updated (c : ZoneConfig) (f : ZoneFields) : ZoneConfig :=
  let sensor (old : Option SensorNo) : Option Nat → Option SensorNo
    | none => old
    | some v => if h : v < 4 then some ⟨v, h⟩ else none
  { naming := ⟨sensor c.naming.primary f.primary, sensor c.naming.secondary f.secondary⟩
    fallback := stored 0 100000 c.fallback f.fallback
    rising := stored 1 16 c.rising f.rising
    falling := stored 1 16 c.falling f.falling
    zoneCap := stored 0 10000 c.zoneCap f.zoneCap
    curfewCap := stored 0 10000 c.curfewCap f.curfewCap
    width := match f.width with
      | none => c.width
      | some v => if v = 12 then .w12 else .w8
    extension := stored 0 3 c.extension f.extension
    dmax := stored 0 8 c.dmax f.dmax }

/-- R86, R88: a face's configuration after the present fields have been stored. -/
def FaceConfig.updated (c : FaceConfig) (f : FaceFields) : FaceConfig :=
  let number (old : Fin 8) : Option Nat → Fin 8
    | none => old
    | some v => if h : v < 8 then ⟨v, h⟩ else old
  { c with
    zone := number c.zone f.zone
    curve := number c.curve f.curve
    trim := stored 128 384 c.trim f.trim
    cap := stored 0 10000 c.cap f.cap
    fullScale := stored 1000 10000 c.fullScale f.fullScale
    slewUp := stored 1 10000 c.slewUp f.slewUp
    slewDown := stored 1 10000 c.slewDown f.slewDown
    proof := match f.proof with
      | none => c.proof
      | some v => decide (v = 1) }

/-- R99: a face that is cut off as the part leaves HOLD. -/
def State.hot (s : State) (i : FaceNo) : Bool :=
  decide ((s.faces.get i).dyn.state = .active) && kindIn (s.faces.get i).dyn.asserted .overbright

/-- R98: a face's record after it has entered CUTOFF, with its commanded level at 0. -/
def Face.cutOff (f : Face) : Face :=
  { f with dyn := { f.dyn with
      state := .cutoff, commanded := some 0, live := { f.dyn.live with cutoffs := min 255 (f.dyn.live.cutoffs + 1) } } }

/-- R99, R161 step 1: the part after the cutoffs of leaving HOLD, their notices in ascending order of face number. -/
def State.leavingHold (s : State) : State :=
  State.postAll
    { s with
      faces := s.faces.mapNo (fun i f => if s.hot i then f.cutOff else f)
      hazard := s.hazard ||| faceSetOf s.hot }
    ((allFaces.filter s.hot).map (fun i => .faceState i .cutoff false))

/-- R76, R161 step 2: an ACTIVE face's record at RESUME, its commanded level taken from its last shown code. -/
def Face.takenUp (f : Face) : Face :=
  if f.dyn.state = .active then
    { f with dyn := { f.dyn with
        commanded := match f.dyn.shown with
          | some ⟨code, .w8⟩ => some (min 10000 (min code 255 * f.config.fullScale / 255))
          | some ⟨code, .w12⟩ => some (min 10000 (min code 4095 * f.config.fullScale / 4095))
          | none => f.dyn.commanded } }
  else f

/-- R158, R159: the completion of a halt: HALTED, the timer stopped, and the MODE notice. -/
def State.haltDone (s : State) : State :=
  State.post { s with overrunWaiting := false, cycleTimer := none, mode := .halted } (.mode .halted)

/-! ### A cycle start and a slot start -/

/-- R92, R102: a face's record after the enable latch, for a face below the span or not. -/
def Face.latched (below : Bool) (f : Face) : Face :=
  if below then
    if f.config.enabled then
      if f.dyn.state = .offline then { f with dyn := { f.dyn with state := .joining } } else f
    else if f.dyn.state = .offline then f
    else { f with dyn := FaceDynamic.cleared .offline }
  else f

/-- R2, steps 1 to 4: the part after the latches of a cycle start. -/
def State.latched (s : State) : State :=
  let below (i : FaceNo) : Bool := decide (i.val < s.span.size)
  let enabled (i : FaceNo) : Bool := (s.faces.get i).config.enabled
  let offline (i : FaceNo) : Bool := decide ((s.faces.get i).dyn.state = .offline)
  State.postAll
    { s with
      cycleTimer := some s.period
      cycleCount := s.cycleCount + 1#32
      curves := s.curves.map (fun c => ⟨c.waiting.getD c.live, none⟩)
      faces := s.faces.mapNo (fun i f => f.latched (below i))
      changeSet := s.changeSet &&& ~~~(faceSetOf (fun i => below i && !enabled i && !offline i)) }
    ((allFaces.filter (fun i => below i && enabled i && offline i)).map (fun i => .faceState i .joining false))

/-- What a slot reads at its start whatever frame it sends (R9, R12, R13). -/
def State.slotOf (s : State) (i : FaceNo) (frame : ChainFrame) (wrote : Option Nat) : Slot :=
  { face := i, frame := frame, wrote := wrote, extension := (s.zones.get (s.faces.get i).config.zone).config.extension,
    dmax := (s.zones.get (s.faces.get i).config.zone).config.dmax, permitted := 1 + s.retries, outcomes := [], attempt := .sending }

/-- R24: the effective width of a face. -/
def State.effective (s : State) (i : FaceNo) : Width :=
  match (s.zones.get (s.faces.get i).config.zone).config.width, (s.faces.get i).dyn.capability with
  | .w12, some ⟨.w8, _, _⟩ => .w8
  | w, _ => w

/-- R26: the proof word of a LEVEL frame to a face whose proof setting is on, and the generator after it. -/
def State.proofFor (s : State) (i : FaceNo) : Option (BitVec 16) × BitVec 15 :=
  if (s.faces.get i).config.proof then (some (proofWord s.proofGen).1, (proofWord s.proofGen).2) else (none, s.proofGen)

/-- R9, R10, R59, R61: the part once the slot of face `i` has started, after the faces `served` and before the faces `todo`. The
state CUTOFF in HOLD, which R10 says does not occur, is kept dark. -/
def State.slotStarted (s : State) (served : List FaceNo) (i : FaceNo) (todo : List FaceNo) : State :=
  let f := s.faces.get i
  let plain (frame : ChainFrame) : State := { s with cycle := some ⟨served, s.slotOf i frame none, todo⟩ }
  let level (code wrote step : Nat) : State :=
    { s with
      faces := s.faces.set i { f with dyn := { f.dyn with commanded := some wrote, patternStep := step } }
      proofGen := (s.proofFor i).2
      cycle := some ⟨served, s.slotOf i (.level (s.effective i) code (s.proofFor i).1) (some wrote), todo⟩ }
  match f.dyn.state with
  | .offline | .joining => plain .ident
  | .active | .cutoff =>
    if s.mode = .running ∨ s.mode = .halting then
      level (s.codeFor i) (s.levelFor i) (if (s.goalFor i).pattern then (f.dyn.patternStep + 1) % 8 else f.dyn.patternStep)
    else if f.dyn.state = .cutoff ∨ (s.claims.get i).map Claim.mode = some .blank then level 0 0 f.dyn.patternStep
    else plain .hold

/-- R2, R4: the part once a cycle start has been taken. -/
def State.cycleStarted (s : State) : State :=
  let t := s.latched
  match allFaces.filter (fun i => decide (i.val < s.span.size) && decide ((t.faces.get i).dyn.state ≠ .offline)) with
  | [] => if s.mode = .halting then State.haltDone { t with cycle := none } else { t with cycle := none }
  | i :: todo => t.slotStarted [] i todo

/-- R4, R6: the part once the cycle in progress has ended. -/
def State.cycleEnded (s : State) : State :=
  let t : State := { s with cycle := none, overrunWaiting := false }
  if s.mode = .halting then t.haltDone else if s.overrunWaiting then t.cycleStarted else t

/-- R17: what follows a slot end: the next slot of the list, or the cycle end. -/
def State.slotOver (s : State) (c : Cycle) : State :=
  match c.todo with
  | [] => s.cycleEnded
  | i :: rest => s.slotStarted (c.served ++ [c.slot.face]) i rest

/-- A face's live counters changed. -/
def State.counting (s : State) (i : FaceNo) (f : Counters → Counters) : State :=
  let x := s.faces.get i
  { s with faces := s.faces.set i { x with dyn := { x.dyn with live := f x.dyn.live } } }

/-- R17, R18: a slot's end, its attempts having had the outcomes given: a MISS is counted, the Fault Monitor takes the report, and the
next slot or the cycle end follows. -/
def State.slotEnded (s : State) (c : Cycle) (outcomes : List AttemptOutcome) (reply : Option FaceReply) : State :=
  let t := match reply with
    | none => s.counting c.slot.face (fun n => { n with missed := min 65535 (n.missed + 1) })
    | some _ => s
  (t.faultMonitor ⟨c.slot.face, c.slot.frame, c.slot.wrote, c.slot.dmax, outcomes, reply⟩).slotOver c

/-- R12, R17, R18: an attempt's end with an outcome that is not VALID: the identical frame is sent again if attempts remain, else the
slot ends MISS. -/
def State.attemptOver (s : State) (c : Cycle) (o : AttemptOutcome) : State :=
  let t := if o = .corrupt then s.counting c.slot.face (fun n => { n with corrupt := min 4095 (n.corrupt + 1) }) else s
  let outcomes := c.slot.outcomes ++ [o]
  if outcomes.length < c.slot.permitted then
    { t with
      retriesSent := min 65535 (t.retriesSent + 1)
      cycle := some { c with slot := { c.slot with outcomes := outcomes, attempt := .sending } } }
  else t.slotEnded c outcomes none

/-- The part with the attempt of its slot in hand replaced. -/
def State.attempting (s : State) (c : Cycle) (a : Attempt) : State :=
  { s with cycle := some { c with slot := { c.slot with attempt := a } } }

/-! ### Scans and seconds -/

/-- The distinct sensors a zone names (R33). -/
def Naming.distinct (n : Naming) : List SensorNo := (n.primary.toList ++ n.secondary.toList).dedup

/-- R33 to R35: a zone's record after an update, from the last readings of its GOOD named sensors. -/
def Zone.updated (z : Zone) (readings : List Nat) : Zone :=
  let sample := readings.min?.getD z.config.fallback
  { z with
    ambient :=
      if sample < z.ambient then z.ambient - ((z.ambient - sample) * z.config.falling + 15) / 16
      else if z.ambient < sample then z.ambient + max 1 ((sample - z.ambient) * z.config.rising / 16)
      else z.ambient
    source := if readings = [] then .fallback else .sensors
    disagree := match readings with
      | [a, b] => decide (4 * min a b + 50 < max a b)
      | _ => false }

/-- R32, R36: the part after scan completion: every zone updated, the ZONE notices due in ascending order. -/
def State.scanDone (s : State) (naming : Table Naming 8) : State :=
  let readings (n : ZoneNo) : List Nat :=
    (naming.get n).distinct.filterMap (fun k => if (s.sensors.get k).health = .good then (s.sensors.get k).reading else none)
  let new (n : ZoneNo) : Zone := (s.zones.get n).updated (readings n)
  State.postAll { s with scan := none, zones := s.zones.mapNo (fun n z => z.updated (readings n)) }
    ((allZones.filter (fun n => !decide ((new n).source = (s.zones.get n).source ∧ (new n).disagree = (s.zones.get n).disagree))).map
      (fun n => .zone n (new n).source (new n).disagree))

/-- R28, R32: the next poll of the list, or scan completion. -/
def State.polling (s : State) (naming : Table Naming 8) : List SensorNo → State
  | [] => s.scanDone naming
  | n :: todo => { s with scan := some ⟨naming, n, todo⟩ }

/-- R28, R36: the part after a scan start. -/
def State.scanStarted (s : State) : State :=
  let naming := s.zones.map (fun z => z.config.naming)
  let named (n : SensorNo) : Bool := decide (∃ z : ZoneNo, (naming.get z).primary = some n ∨ (naming.get z).secondary = some n)
  let moves (n : SensorNo) : Bool := decide (named n = true ↔ (s.sensors.get n).health = .unused)
  let new (n : SensorNo) : Sensor := if named n then ⟨.doubtful, 0, 0, none⟩ else ⟨.unused, 0, 0, none⟩
  State.polling
    (State.postAll { s with sensors := s.sensors.mapNo (fun n x => if moves n then new n else x) }
      ((allSensors.filter moves).map (fun n => .sensor n (new n).health)))
    naming (allSensors.filter named)

/-- R29, R30, R36: the part after the poll under way has ended, the part having sent `signals` to end it, leaving the sensor's record
`x`. -/
def State.polled (s : State) (c : Scan) (signals : List BusSignal) (x : Sensor) : State :=
  State.polling
    (State.postAll { s with busEnd := signals, sensors := s.sensors.set c.polling x }
      (if x.health = (s.sensors.get c.polling).health then [] else [.sensor c.polling x.health]))
    c.naming c.todo

/-- R132: what a one-second event makes of a claim record. -/
def Claim.second (c : Claim) : Option Claim :=
  if c.remaining = 0 then some c else if c.remaining = 1 then none else some { c with remaining := c.remaining - 1 }

/-- R132: whether a face's claim lapses at the next one-second event. -/
def State.lapsing (s : State) (i : FaceNo) : Bool := decide ((s.claims.get i).map Claim.remaining = some 1)

/-- R132: the Claim Table's part of a one-second event. -/
def State.claimsTicked (s : State) : State :=
  State.postAll
    { s with
      claims := s.claims.map (fun c => c.bind Claim.second)
      lapsed := s.lapsed ||| faceSetOf s.lapsing }
    ((allFaces.filter s.lapsing).map (fun i => .owner i .operator true))

/-- R143: the part after a snapshot. -/
def State.snapshotted (s : State) : State :=
  { s with faces := s.faces.map Face.snapshotted, snapRetries := s.retriesSent, snapStamp := some s.seconds, retriesSent := 0 }

/-- R145: whether the next one-second event brings an automatic snapshot. -/
def State.snapshotDue (s : State) : Bool := s.autosnap && decide (59 ≤ s.autoCount)

/-- R145: the Counter Bank's part of a one-second event. -/
def State.bankTicked (s : State) : State :=
  if s.autosnap = false then s
  else if s.autoCount < 59 then { s with autoCount := s.autoCount + 1 }
  else State.post (State.snapshotted { s with autoCount := 0 }) .snapshot

/-- R42, R43: the Time base's part of a one-second event. -/
def State.timeTicked (s : State) : State :=
  { s with
    seconds := s.seconds + 1#16
    dayClock := s.dayClock.map (fun t => if 86399 ≤ t then 0 else t + 1) }

/-! ### Invariants -/

/-- R149: at most 24 notices wait, and no two of them have the same kind and subject. -/
abbrev QueueInv (s : State) : Prop :=
  s.queue.length ≤ 24 ∧
    s.queue.Pairwise (fun m n => ¬(m.body.kindNo = n.body.kindNo ∧ m.body.subject = n.body.subject))

/-- R47: a valid list of breakpoints. -/
abbrev ValidList (l : List Breakpoint) : Prop :=
  2 ≤ l.length ∧ l.length ≤ 12 ∧ (∀ p ∈ l, p.x ≤ 100000 ∧ p.y ≤ 10000) ∧ l.Pairwise (fun p q => p.x < q.x ∧ p.y ≤ q.y)

/-- R47: every list the Curve Store holds is valid. -/
abbrev CurveInv (s : State) : Prop :=
  ∀ n : CurveNo, ValidList (s.curves.get n).live ∧ ∀ l ∈ (s.curves.get n).waiting, ValidList l

/-- The WAITs an attempt has honoured (R14). -/
def Attempt.waits : Attempt → Nat
  | .sending => 0
  | .listening _ n _ _ => n

/-- R13: a window has not run out while no reply has begun. -/
def Attempt.alive : Attempt → Bool
  | .listening _ _ true none => false
  | .sending | .listening _ _ _ _ => true

/-- R128: every claim's remaining time is at most 86,400 s, a cap level at most 10,000, and its face lies below the span. -/
abbrev ClaimInv (s : State) : Prop :=
  ∀ i : FaceNo, ∀ c ∈ s.claims.get i,
    c.remaining ≤ 86400 ∧ (∀ v ∈ c.mode.level, v ≤ 10000) ∧ i.val < s.span.size

/-- R12 to R14, R17: a slot in hand has made fewer attempts than permitted, none of them valid, its attempt has honoured at most 8 WAITs,
and its window has run out only while a reply is arriving. -/
abbrev SlotInv (slot : Slot) : Prop :=
  slot.outcomes.length < slot.permitted ∧ slot.permitted ≤ 3 ∧ (∀ o ∈ slot.outcomes, o ≠ .valid) ∧
    slot.attempt.waits ≤ 8 ∧ slot.attempt.alive = true

/-- R3, R20: a cycle's slot list lies below the span and rises strictly, so no face stands in it twice. -/
abbrev CycleInv (s : State) : Prop :=
  ∀ c ∈ s.cycle,
    (∀ i ∈ c.served ++ c.slot.face :: c.todo, i.val < s.span.size) ∧
      (c.served ++ c.slot.face :: c.todo).Pairwise (fun i j => i.val < j.val) ∧ SlotInv c.slot

/-- R163: while a reset is in progress the chain, the sensor bus and the links are silent. That nothing waits to be fetched and that the
hold-off and error counts are 0 then already is the model's choice (log entry 9). -/
abbrev ResetInv (s : State) : Prop :=
  (s.resetting = true ↔ s.resetLine.pinLow = true ∨ s.resetLine.supply ≠ .working) ∧
    (s.resetting = true →
      s.cycle = none ∧ s.cycleTimer = none ∧ s.overrunWaiting = false ∧ s.scan = none ∧ s.scanTimer = none ∧
        s.control = ⟨.waiting, none, 0⟩ ∧ s.authority = ⟨.waiting, none, 0⟩ ∧ s.queue = [] ∧ s.holdoffCount = 0)

/-- R4 to R6, R8, R27: HALTED has no cycle and its timer is stopped; HALTING has a cycle in progress; an overrun waits only in a
cycle, with the timer stopped; in HOLD and RUNNING the timer runs unless an overrun waits; the scan timer runs. -/
abbrev TimerInv (s : State) : Prop :=
  (s.mode = .halted → s.cycle = none ∧ s.cycleTimer = none) ∧
    (s.mode = .halting → s.resetting = false → s.cycle ≠ none) ∧
    (s.overrunWaiting = true → s.cycle ≠ none ∧ s.cycleTimer = none) ∧
    (s.resetting = false → s.mode ≠ .halted → s.overrunWaiting = false → s.cycleTimer ≠ none) ∧
    (s.resetting = false → s.scanTimer ≠ none)

/-- The Chain Controller, the reset line and the modes agree. The retry setting bounds the attempts of the slots to come. -/
abbrev ChainInv (s : State) : Prop := s.retries ≤ 2 ∧ CycleInv s ∧ ResetInv s ∧ TimerInv s

/-- R10, R99, R112, R120: in HOLD no face is in CUTOFF; in every other mode no ACTIVE face has OVERBRIGHT asserted; a JOINING or
OFFLINE face has nothing asserted but NO_REPLY or BAD_FRAME. -/
abbrev CutoffInv (s : State) : Prop :=
  ∀ i : FaceNo,
    (s.mode = .hold → (s.faces.get i).dyn.state ≠ .cutoff) ∧
      (s.mode ≠ .hold → (s.faces.get i).dyn.state = .active → kindIn (s.faces.get i).dyn.asserted .overbright = false) ∧
      ((s.faces.get i).dyn.state = .joining ∨ (s.faces.get i).dyn.state = .offline →
        ∀ k ∈ allKinds, k ≠ .noReply → k ≠ .badFrame → kindIn (s.faces.get i).dyn.asserted k = false)

/-- R71, R73, R78, R119: a face has a commanded level exactly while it is ACTIVE or in CUTOFF; levels are at most 10,000 and the
pattern step at most 7. -/
abbrev LevelInv (s : State) : Prop :=
  (∀ i : FaceNo,
    let d := (s.faces.get i).dyn
    (d.commanded ≠ none ↔ d.state = .active ∨ d.state = .cutoff) ∧ (∀ v ∈ d.commanded, v ≤ 10000) ∧
      (∀ v ∈ d.delivered, v ≤ 10000) ∧ d.patternStep ≤ 7) ∧
    (∀ c ∈ s.cycle, ∀ v ∈ c.slot.wrote, v ≤ 10000)

/-- R142: counters within their ranges. -/
abbrev CountersInv (c : Counters) : Prop := c.missed ≤ 65535 ∧ c.corrupt ≤ 4095 ∧ c.echo ≤ 4095 ∧ c.cutoffs ≤ 255

/-- R113, R114, R142, R143, R145, R153, R168: counters, runs and counts lie within their ranges, and of a kind's two runs one is
always 0. -/
abbrev CountInv (s : State) : Prop :=
  (∀ i : FaceNo,
    CountersInv (s.faces.get i).dyn.live ∧ CountersInv (s.faces.get i).snap ∧
      ∀ k : Fin 8, ((s.faces.get i).dyn.runs.get k).present ≤ 15 ∧ ((s.faces.get i).dyn.runs.get k).absent ≤ 15 ∧
        (((s.faces.get i).dyn.runs.get k).present = 0 ∨ ((s.faces.get i).dyn.runs.get k).absent = 0)) ∧
    s.retriesSent ≤ 65535 ∧ s.overruns ≤ 65535 ∧ s.snapRetries ≤ 65535 ∧ s.autoCount ≤ 59 ∧ s.holdoff ≤ 15 ∧
    s.holdoffCount ≤ 15 ∧ s.control.errors ≤ 255 ∧ s.authority.errors ≤ 255

/-- R38: a zone's configuration within its ranges. -/
abbrev ZoneConfigInv (c : ZoneConfig) : Prop :=
  c.fallback ≤ 100000 ∧ (1 ≤ c.rising ∧ c.rising ≤ 16) ∧ (1 ≤ c.falling ∧ c.falling ≤ 16) ∧ c.zoneCap ≤ 10000 ∧
    c.curfewCap ≤ 10000 ∧ c.extension ≤ 3 ∧ c.dmax ≤ 8

/-- R86: a face's configuration within its ranges. -/
abbrev FaceConfigInv (c : FaceConfig) : Prop :=
  (128 ≤ c.trim ∧ c.trim ≤ 384) ∧ c.cap ≤ 10000 ∧ (1000 ≤ c.fullScale ∧ c.fullScale ≤ 10000) ∧
    (1 ≤ c.slewUp ∧ c.slewUp ≤ 10000) ∧ (1 ≤ c.slewDown ∧ c.slewDown ≤ 10000) ∧
    (∀ v ∈ c.conditioning.level, v ≤ 10000)

/-- R1, R12, R27, R38, R43, R45, R86, R115: every setting lies within its range and on its step. -/
abbrev SettingInv (s : State) : Prop :=
  (50 ≤ s.period ∧ s.period ≤ 2000 ∧ s.period % 10 = 0) ∧ (100 ≤ s.scanPeriod ∧ s.scanPeriod ≤ 1000 ∧ s.scanPeriod % 50 = 0) ∧
    s.retries ≤ 2 ∧ s.curfewStart ≤ 86399 ∧ s.curfewEnd ≤ 86399 ∧ (∀ t ∈ s.dayClock, t ≤ 86399) ∧
    (∀ n : ZoneNo, ZoneConfigInv (s.zones.get n).config) ∧ (∀ i : FaceNo, FaceConfigInv (s.faces.get i).config) ∧
    (∀ k : Fin 8, (1 ≤ (s.persist.get k).assert ∧ (s.persist.get k).assert ≤ 15) ∧
      (1 ≤ (s.persist.get k).clear ∧ (s.persist.get k).clear ≤ 15))

/-- Section 2.2, R30, R31, R37: what a sensor's health says of its runs and its last reading. -/
abbrev SensorRecordInv (x : Sensor) : Prop :=
  (∀ v ∈ x.reading, v ≤ 100000) ∧
    (x.health = .unused → x.missRun = 0 ∧ x.validRun = 0 ∧ x.reading = none) ∧
    (x.health = .doubtful → x.missRun ≤ 3 ∧ x.validRun = 0) ∧
    (x.health = .good → x.missRun = 0 ∧ x.validRun = 0 ∧ x.reading ≠ none) ∧
    (x.health = .failed → x.missRun = 4 ∧ x.validRun ≤ 1)

/-- R28, R34: the sensor records stand as their health says, no UNUSED sensor is polled, and every estimate is at most 100,000. -/
abbrev SensorInv (s : State) : Prop :=
  (∀ n : SensorNo, SensorRecordInv (s.sensors.get n)) ∧
    (∀ c ∈ s.scan, ∀ n ∈ c.polling :: c.todo, (s.sensors.get n).health ≠ .unused) ∧
    (∀ n : ZoneNo, (s.zones.get n).ambient ≤ 100000)

end Sys2Proof.Machine
end

