-- ==== Sys2Proof/Certificates/Slice0/Obligations.lean ====
section
/-! DEFINITION. Certificates/Slice0/Obligations.lean: the statements for the provers. A statement that gives the whole next state
says at once what the command does, that it completes, and what it leaves unchanged. -/

open Sys2Proof Sys2Proof.Machine

/-! ## Commands, replies and frames (chapter 11) -/

/-- A step takes the command at the front of the queue with the rest of the queue behind it. With nothing waiting the part idles:
the queue and the idling are the model's own (log entry 2). -/
def Obligations.StepTakesFrontCommand : Prop :=
  (∀ (s : State) (c : Instr) (rest : List Instr),
    step { s with pending := c :: rest } = exec c { s with pending := rest }) ∧
    ∀ s : State, s.pending = [] → step s = .next s

/-- Every command runs to a next state, and none touches the queue of commands. -/
def Obligations.EveryCommandAnswers : Prop :=
  ∀ (c : Instr) (s : State), ∃ t, exec c s = .next t ∧ t.pending = s.pending

/-- R168, flag clear: a request taken sets its one reply on its way on its own link, with the request's kind and tag; the other link's
port, the receive buffer and the error count are as before. R169: a refused request changes nothing else. R168, flag set: a request
that completes before the previous reply has been sent is discarded without reply, and counted. -/
def Obligations.OneReplyOrDiscarded : Prop :=
  ∀ (i : Instr) (r : Request) (s : State), i.request = some r →
    (s.takes r.kind.link →
      ∃ (a : Answer) (t : State), exec i s = .next t ∧
        t.port r.kind.link = { s.port r.kind.link with reply := some ⟨r.kind.code, r.tag, a⟩ } ∧
        (∀ l : Link, l ≠ r.kind.link → t.port l = s.port l) ∧
        ∀ reason : Reason, a = .refused reason → t = s.answered r.kind r.tag (.refused reason)) ∧
    (s.resetting = false → (s.port r.kind.link).reply ≠ none →
      exec i s = .next (s.setPort r.kind.link
        { s.port r.kind.link with errors := min 255 ((s.port r.kind.link).errors + 1) }))

/-- R163: while a reset is in progress no command but those of the pin and the supply changes anything, the chain and the sensor bus
are silent, and ATTN and AATTN are deasserted. -/
def Obligations.ResetInProgressIsDeaf : Prop :=
  ∀ (c : Instr) (s : State), ResetInv s → s.resetting = true →
    (match c with
      | .resetPinLow | .resetPinRelease _ | .supplyDip | .supplyOff | .supplyRecovery _ => True
      | _ => exec c s = .next s) ∧
      s.attn = false ∧ s.aattn = false ∧ s.fde = false ∧ s.chainOut = none ∧ s.sensorAddress = none ∧
      s.sensorBus = none

/-- R167, R172, section 11.5: the bytes of a request's frame, arriving one after the other at a waiting port, have exactly the effect of
the request. -/
def Obligations.FrameByteByByteIsItsRequest : Prop :=
  ∀ (i : Instr) (r : Request) (s : State), i.request = some r → i.wellFormed = true → s.resetting = false →
    (s.port r.kind.link).receiver = .waiting →
    feedLink r.kind.link
      ([0xB4#8, BitVec.ofNat 8 (r.payload.length + 2), r.kind.code, r.tag] ++ r.payload
        ++ crcBytes (crcOf ([BitVec.ofNat 8 (r.payload.length + 2), r.kind.code, r.tag] ++ r.payload))) s = exec i s

/-- R169, test 1: a good frame whose kind the link does not accept is refused with UNKNOWN_KIND, and nothing else changes. -/
def Obligations.UnknownKindRefused : Prop :=
  ∀ (l : Link) (kind tag : Byte) (payload : List Byte) (s : State), (∀ k : RequestKind, k.link = l → k.code ≠ kind) →
    payload.length ≤ 198 → s.takes l → (s.port l).receiver = .waiting →
    feedLink l
      ([0xB4#8, BitVec.ofNat 8 (payload.length + 2), kind, tag] ++ payload
        ++ crcBytes (crcOf ([BitVec.ofNat 8 (payload.length + 2), kind, tag] ++ payload))) s
      = .next (s.setPort l { s.port l with reply := some ⟨kind, tag, .refused .unknownKind⟩ })

/-- R167: every byte that does not complete a good frame, and the gap: what is ignored, begun, kept or discarded. That a byte with a
framing error is ignored outside a frame is the model's choice (log entry 12). -/
def Obligations.FrameReception : Prop :=
  ∀ (l : Link) (b : Byte) (e : Bool) (s : State), s.resetting = false →
    match (s.port l).receiver with
    | .waiting =>
      exec (.linkFrameTimeout l) s = .next s ∧
        (b ≠ 0xB4#8 ∨ e = true → exec (.linkByteReceived l b e) s = .next s) ∧
        (b = 0xB4#8 → e = false →
          exec (.linkByteReceived l b e) s = .next (s.setPort l { s.port l with receiver := .receiving [] }))
    | .receiving taken =>
      exec (.linkFrameTimeout l) s = .next (s.discarded l) ∧
        exec (.linkByteReceived l b true) s = .next (s.discarded l) ∧
        (taken = [] →
          exec (.linkByteReceived l b false) s =
            .next (if b.toNat < 2 ∨ 200 < b.toNat then s.discarded l
              else s.setPort l { s.port l with receiver := .receiving [b] })) ∧
        (∀ (n : Byte) (rest : List Byte), taken = n :: rest → rest.length ≤ n.toNat →
          exec (.linkByteReceived l b false) s =
            .next (s.setPort l { s.port l with receiver := .receiving (n :: (rest ++ [b])) })) ∧
        ∀ (n hi : Byte) (body : List Byte), taken = (n :: body) ++ [hi] → body.length = n.toNat →
          [hi, b] ≠ crcBytes (crcOf (n :: body)) → exec (.linkByteReceived l b false) s = .next (s.discarded l)

/-- R167: the CRC over the nine characters of the rule is 29B1 hex, and one step of it is the division by 1021 hex. R168, R169, R172: the
bytes of a reply, DONE with the clamped mark in bit 0 of its flags byte or REFUSED with its reason byte. That the other bits of that
flags byte are 0 is the model's choice (log entry 4). -/
def Obligations.CrcAndReplyFrames : Prop :=
  (crcOf [0x31#8, 0x32#8, 0x33#8, 0x34#8, 0x35#8, 0x36#8, 0x37#8, 0x38#8, 0x39#8] = 0x29B1#16 ∧ crcOf [] = 0xFFFF#16 ∧
    crcBytes 0x29B1#16 = [0x29#8, 0xB1#8] ∧
    ∀ c : BitVec 16, crcBit c = if 32768 ≤ c.toNat then (c <<< 1) ^^^ 0x1021#16 else c <<< 1) ∧
  (∀ (kind tag : Byte) (clamped : Bool) (data : List Byte), (Reply.mk kind tag (.done clamped data)).frame =
    0xB4#8 :: ([BitVec.ofNat 8 (data.length + 4), 0x80#8, tag, kind, if clamped then 1#8 else 0#8] ++ data
      ++ crcBytes (crcOf ([BitVec.ofNat 8 (data.length + 4), 0x80#8, tag, kind, if clamped then 1#8 else 0#8] ++ data)))) ∧
    ∀ (kind tag : Byte) (reason : Reason), (Reply.mk kind tag (.refused reason)).frame =
      0xB4#8 :: ([4#8, 0x81#8, tag, kind,
          match reason with
          | .unknownKind => 1#8 | .badLength => 2#8 | .badValue => 3#8 | .wrongMode => 4#8 | .wrongState => 5#8]
        ++ crcBytes (crcOf [4#8, 0x81#8, tag, kind,
          match reason with
          | .unknownKind => 1#8 | .badLength => 2#8 | .badValue => 3#8 | .wrongMode => 4#8 | .wrongState => 5#8]))

/-- R168: the last byte of a reply clears the pending-reply flag. A reply of a RESET taken is the one that does more: ResetCompletes says
what. That the event changes nothing with no reply on its way, when it cannot occur, is the model's choice (log entry 3). -/
def Obligations.ReplySent : Prop :=
  ∀ (l : Link) (straps : Straps) (s : State),
    match (s.port l).reply with
    | none => exec (.replySent l straps) s = .next s
    | some r =>
      (r.kind ≠ 0x03#8 ∨ (∃ reason, r.answer = .refused reason)) →
        exec (.replySent l straps) s = .next (s.setPort l { s.port l with reply := none })

/-- R170: PING. That the fields take 2, 1, 1 and 1 bytes is the model's reading (log entry 4). -/
def Obligations.PingIdentity : Prop :=
  ∀ (tag : Byte) (payload : List Byte) (s : State), s.takes .control →
    exec (.ping tag payload) s = .next (s.answered .ping tag
      (if payload = [] then .done false [0x2C#8, 0x71#8, 3#8, 32#8, 1#8] else .refused .badLength))

/-- R171: STATUS. -/
def Obligations.StatusReport : Prop :=
  ∀ (tag : Byte) (payload : List Byte) (s : State), s.takes .control →
    exec (.status tag payload) s = .next (s.answered .status tag
      (if payload = [] then
        .done false ([s.mode.code, s.lastCause.code] ++ maybeBytes 3 s.dayClock ++ fieldBytes 4 s.cycleCount.toNat
          ++ fieldBytes 2 s.overruns ++ fieldBytes 1 s.queue.length ++ [flagByte s.otherLost]
          ++ fieldBytes 1 (allFaces.filter (fun i => s.hazard.getLsbD i.val)).length
          ++ fieldBytes 1 s.control.errors ++ fieldBytes 1 s.authority.errors)
      else .refused .badLength))

/-! ## Modes and resets (chapter 10) -/

/-- R159, R158, R4: HALT in each mode, with a cycle in progress and without. -/
def Obligations.HaltRequest : Prop :=
  ∀ (tag : Byte) (payload : List Byte) (s : State), s.takes .control →
    exec (.halt tag payload) s = .next (
      if payload ≠ [] then s.answered .halt tag (.refused .badLength)
      else
        let begun (t : State) : State :=
          let u := State.post { t with mode := .halting } (.mode .halting)
          if s.cycle = none then u.haltDone.answered .halt tag (.done false [3#8])
          else u.answered .halt tag (.done false [2#8])
        match s.mode with
        | .hold => begun s.leavingHold
        | .running => begun s
        | .halting => s.answered .halt tag (.done false [2#8])
        | .halted => s.answered .halt tag (.done false [3#8]))

/-- R160, R158: RUN in each mode. That the MODE notice stands before the notices of the cycle start is the model's reading (log entry
11). -/
def Obligations.RunRequest : Prop :=
  ∀ (tag : Byte) (payload : List Byte) (s : State), s.takes .control →
    exec (.run tag payload) s = .next (
      if payload ≠ [] then s.answered .run tag (.refused .badLength)
      else
        match s.mode with
        | .hold => s.answered .run tag (.refused .wrongMode)
        | .running => s.answered .run tag (.done false [1#8])
        | .halting => (State.post { s with mode := .running } (.mode .running)).answered .run tag (.done false [1#8])
        | .halted =>
          (State.post { s with mode := .running } (.mode .running)).cycleStarted.answered .run tag (.done false [1#8]))

/-- R161, R76, R99: RESUME: the cutoffs, the taking-up, the mode; refused outside HOLD. That an ACTIVE face without a last shown code,
which no run reaches, keeps its commanded level is the model's choice (log entry 14). -/
def Obligations.ResumeRequest : Prop :=
  ∀ (tag : Byte) (payload : List Byte) (s : State), s.takes .control →
    exec (.resume tag payload) s = .next (
      if payload ≠ [] then s.answered .resume tag (.refused .badLength)
      else if s.mode ≠ .hold then s.answered .resume tag (.refused .wrongMode)
      else
        let t := s.leavingHold
        (State.post { t with faces := t.faces.map Face.takenUp, mode := .running } (.mode .running)).answered .resume tag
          (.done false [1#8]))

/-- R163, R164: how each cause begins or extends a reset, and when it raises none: the cause recorded, the latest of the coldest class to
arise, and the part while the reset is in progress. RESET is answered DONE and changes nothing yet. The model's own: that the part is
cleared at the beginning already (log entry 9), that a supply off makes POWER_ON the cause at that moment (log entry 10), that a pin
already low or a supply not working raises no new cause (log entry 3), and that the DONE of RESET carries no data (log entry 4). -/
def Obligations.ResetBegins : Prop :=
  (∀ s : State,
    exec .resetPinLow s = .next
      (if s.resetLine.pinLow then s else s.silenced ⟨true, s.resetLine.supply, some (causeAfter s.resetLine.cause .pin)⟩) ∧
    exec .supplyDip s = .next
      (if s.resetLine.supply = .working then
        s.silenced ⟨s.resetLine.pinLow, .dipped, some (causeAfter s.resetLine.cause .supplyDip)⟩
      else s) ∧
    exec .supplyOff s = .next (s.silenced ⟨s.resetLine.pinLow, .off, some (causeAfter s.resetLine.cause .powerOn)⟩) ∧
    ∀ (tag : Byte) (payload : List Byte), s.takes .control →
      exec (.reset tag payload) s =
        .next (s.answered .reset tag (if payload = [] then .done false [] else .refused .badLength))) ∧
    (∀ cause, causeAfter none cause = cause) ∧
    (∀ before, causeAfter before .powerOn = .powerOn ∧ causeAfter before .supplyDip = .supplyDip) ∧
    (∀ before, before = .powerOn ∨ before = .supplyDip →
      causeAfter (some before) .pin = before ∧ causeAfter (some before) .linkRequest = before) ∧
    ∀ before, before = .pin ∨ before = .linkRequest →
      causeAfter (some before) .pin = .pin ∧ causeAfter (some before) .linkRequest = .linkRequest

/-- R163 to R166: a reset completes when no cause remains, and then the part stands as R165's table says, the first cycle started
(R8); while a cause remains, the pin and the supply are only noted. A RESET request's reset follows its reply at once. The model's own:
that the straps are operands (log entry 10), and that a release or a recovery with no reset in progress is only noted (log entry 3). -/
def Obligations.ResetCompletes : Prop :=
  ∀ (straps : Straps) (s : State),
    let completed (t : State) (c : ResetCause) : State :=
      if c = .powerOn ∨ c = .supplyDip then t.afterCold c straps else t.afterWarm c straps
    (exec (.resetPinRelease straps) s = .next
      (let t : State := { s with resetLine := { s.resetLine with pinLow := false } }
      match s.resetLine.cause with
      | none => t
      | some c => if s.resetLine.supply = .working then completed t c else t)) ∧
    (exec (.supplyRecovery straps) s = .next
      (let t : State := { s with resetLine := { s.resetLine with supply := .working } }
      match s.resetLine.cause with
      | none => t
      | some c => if s.resetLine.pinLow then t else completed t c)) ∧
    ∀ (tag : Byte) (clamped : Bool) (data : List Byte), s.control.reply = some ⟨0x03#8, tag, .done clamped data⟩ →
      s.resetLine = ⟨false, .working, none⟩ →
      exec (.replySent .control straps) s = .next (s.afterWarm .linkRequest straps)

/-- R165, column "after a cold reset": what the model's reset state holds, field by field. The straps low, and the cause POWER_ON, are the
model's choice (log entry 1); freeChoices and pending are its own fields (log entries 6 and 2). -/
def Obligations.ResetState : Prop :=
  let s := State.reset
  (s.mode = .hold ∧ s.lastCause = .powerOn ∧ s.resetLine = ⟨false, .working, none⟩ ∧ s.straps = ⟨false, false⟩) ∧
    (s.freeChoices = 0 ∧ s.pending = []) ∧
    (s.period = 200 ∧ s.retries = 1 ∧ s.span = .s32 ∧ s.scanPeriod = 250 ∧ s.cycleTimer = some 200 ∧ s.scanTimer = some 250) ∧
    (s.cycle = none ∧ s.scan = none ∧ s.busEnd = [] ∧ s.overrunWaiting = false ∧ s.proofGen = 0x7FFF#15 ∧ s.cycleCount = 1#32) ∧
    (∀ n : ZoneNo, s.zones.get n =
      ⟨⟨⟨none, none⟩, 400, 2, 12, 10000, 350, .w8, 0, 2⟩, 400, .fallback, false⟩) ∧
    (∀ n : SensorNo, s.sensors.get n = ⟨.unused, 0, 0, none⟩) ∧
    (∀ n : CurveNo, s.curves.get n = ⟨[⟨0, 300⟩, ⟨100000, 300⟩], none⟩) ∧
    (∀ i : FaceNo, (s.faces.get i).config = ⟨false, 0, 0, 256, 7500, 7500, 200, 400, false, .normal⟩ ∧
      (s.faces.get i).snap = ⟨0, 0, 0, 0⟩ ∧ s.claims.get i = none ∧
      (let d := (s.faces.get i).dyn
       d.state = .offline ∧ d.capability = none ∧ d.commanded = none ∧ d.delivered = none ∧ d.shown = none ∧
        d.stringsOut = none ∧ d.measured = none ∧ d.flags = ⟨false, false, false⟩ ∧ d.patternStep = 0 ∧ d.asserted = 0#8 ∧
        d.live = ⟨0, 0, 0, 0⟩ ∧ ∀ k : Fin 8, d.runs.get k = ⟨0, 0⟩)) ∧
    (s.persist.cells = [⟨3, 2⟩, ⟨3, 2⟩, ⟨2, 2⟩, ⟨3, 3⟩, ⟨2, 5⟩, ⟨2, 2⟩, ⟨2, 4⟩, ⟨1, 1⟩]) ∧
    (s.seconds = 0#16 ∧ s.dayClock = none ∧ s.curfewStart = 0 ∧ s.curfewEnd = 0) ∧
    (s.retriesSent = 0 ∧ s.overruns = 0 ∧ s.snapRetries = 0 ∧ s.snapStamp = none ∧ s.autosnap = false ∧ s.autoCount = 0) ∧
    (s.queue = [⟨.restart .powerOn, 0#16⟩] ∧ s.changeSet = 0#32 ∧ s.otherLost = false ∧ s.holdoff = 0 ∧ s.holdoffCount = 0) ∧
    (s.hazard = 0#32 ∧ s.lapsed = 0#32 ∧ s.restarted = true ∧ s.control = ⟨.waiting, none, 0⟩ ∧
      s.authority = ⟨.waiting, none, 0⟩)

/-! ## Time, zones, sensors and the chain's settings (chapters 1 and 2) -/

/-- R44, R45, R172: SET_TIME, which reports the value stored, or the clock that may be unset when its payload is empty; and SET_CURFEW. -/
def Obligations.TimeSettings : Prop :=
  ∀ (tag : Byte) (payload : List Byte) (s : State), s.takes .control →
    (exec (.setTime tag payload) s = .next (
      match payload with
      | [] => s.answered .setTime tag (.done false (maybeBytes 3 s.dayClock))
      | [a, b, c] =>
        if 86399 < word3 a b c then s.answered .setTime tag (.refused .badValue)
        else State.answered { s with dayClock := some (word3 a b c) } .setTime tag (.done false [a, b, c])
      | _ => s.answered .setTime tag (.refused .badLength))) ∧
    exec (.setCurfew tag payload) s = .next (
      match payload with
      | [] => s.answered .setCurfew tag (.done false (fieldBytes 3 s.curfewStart ++ fieldBytes 3 s.curfewEnd))
      | [a, b, c, d, e, f] =>
        let start := min (word3 a b c) 86399
        let stop := min (word3 d e f) 86399
        State.answered { s with curfewStart := start, curfewEnd := stop } .setCurfew tag
          (.done (decide (86399 < word3 a b c ∨ 86399 < word3 d e f)) (fieldBytes 3 start ++ fieldBytes 3 stop))
      | _ => s.answered .setCurfew tag (.refused .badLength))

/-- R1, R12, R27, R153: SET_CYCLE, SET_RETRIES, SET_SCAN and SET_HOLDOFF: the value brought onto its step and its range; a timer or
count already running is not touched. R27's example for 1,234 ms lies outside R27's own range, and the range is followed (log entry
13). -/
def Obligations.PeriodSettings : Prop :=
  ∀ (tag : Byte) (payload : List Byte) (s : State), s.takes .control →
    (exec (.setCycle tag payload) s = .next (
      match payload with
      | [] => s.answered .setCycle tag (.done false (fieldBytes 2 s.period))
      | [a, b] =>
        let v := max 50 (min (word2 a b - word2 a b % 10) 2000)
        State.answered { s with period := v } .setCycle tag (.done (decide (v ≠ word2 a b)) (fieldBytes 2 v))
      | _ => s.answered .setCycle tag (.refused .badLength))) ∧
    (exec (.setScan tag payload) s = .next (
      match payload with
      | [] => s.answered .setScan tag (.done false (fieldBytes 2 s.scanPeriod))
      | [a, b] =>
        let v := max 100 (min (word2 a b - word2 a b % 50) 1000)
        State.answered { s with scanPeriod := v } .setScan tag (.done (decide (v ≠ word2 a b)) (fieldBytes 2 v))
      | _ => s.answered .setScan tag (.refused .badLength))) ∧
    (exec (.setRetries tag payload) s = .next (
      match payload with
      | [] => s.answered .setRetries tag (.done false (fieldBytes 1 s.retries))
      | [a] =>
        State.answered { s with retries := min a.toNat 2 } .setRetries tag
          (.done (decide (2 < a.toNat)) (fieldBytes 1 (min a.toNat 2)))
      | _ => s.answered .setRetries tag (.refused .badLength))) ∧
    exec (.setHoldoff tag payload) s = .next (
      match payload with
      | [] => s.answered .setHoldoff tag (.done false (fieldBytes 1 s.holdoff))
      | [a] =>
        State.answered { s with holdoff := min a.toNat 15 } .setHoldoff tag
          (.done (decide (15 < a.toNat)) (fieldBytes 1 (min a.toNat 15)))
      | _ => s.answered .setHoldoff tag (.refused .badLength))

/-- R39, R23, R172: SET_ZONE, with every selection of fields that its payload can carry, and the payloads whose length disagrees with
their mask. The order of the tests decides the reply. The model's own (log entry 4): a width is the byte 8 or 12, the mask is always
sent, and its bits above dmax, `spare`, are ignored. -/
def Obligations.SetZone : Prop :=
  ∀ (tag : Byte) (s : State), s.takes .control →
    (∀ (zone : Byte) (spare : Nat) (f : ZoneFields), spare < 64 → fieldsFit zoneSizes f.list = true →
      exec (.setZone tag (zonePayload zone spare f)) s = .next (
        if h : zone.toNat < 8 then
          let z := s.zones.get ⟨zone.toNat, h⟩
          let badSensor (v : Option Nat) : Bool := v.any (fun n => decide (4 ≤ n ∧ n ≠ 255))
          if badSensor f.primary ∨ badSensor f.secondary then s.answered .setZone tag (.refused .badValue)
          else if f.width.any (fun n => decide (n ≠ 8 ∧ n ≠ 12)) then s.answered .setZone tag (.refused .badValue)
          else if (f.width = some 8 ∧ z.config.width = .w12 ∨ f.width = some 12 ∧ z.config.width = .w8) ∧ s.mode ≠ .halted then
            s.answered .setZone tag (.refused .wrongMode)
          else
            let c := z.config.updated f
            State.answered { s with zones := s.zones.set ⟨zone.toNat, h⟩ { z with config := c } } .setZone tag
              (.done (outside 0 100000 f.fallback || outside 1 16 f.rising || outside 1 16 f.falling
                || outside 0 10000 f.zoneCap || outside 0 10000 f.curfewCap || outside 0 3 f.extension || outside 0 8 f.dmax)
                c.layout)
        else s.answered .setZone tag (.refused .badValue))) ∧
    (∀ payload : List Byte, payload.length < 3 → exec (.setZone tag payload) s = .next (s.answered .setZone tag (.refused .badLength))) ∧
    ∀ (zone hi lo : Byte) (rest : List Byte), rest.length ≠ markedBytes zoneSizes (word2 hi lo) →
      exec (.setZone tag (zone :: hi :: lo :: rest)) s = .next (s.answered .setZone tag (.refused .badLength))

/-- R41, R56, R46, R172: READ_ZONE, READ_SENSOR and READ_CURVE change nothing and report the records. That a zone's width is the byte 8 or
12 is the model's reading (log entry 4). -/
def Obligations.ReadZoneSensorCurve : Prop :=
  ∀ (tag : Byte) (payload : List Byte) (s : State), s.takes .control →
    (exec (.readZone tag payload) s = .next (s.answered .readZone tag (
      match payload with
      | [a] =>
        if h : a.toNat < 8 then
          let z := s.zones.get ⟨a.toNat, h⟩
          .done false (z.config.layout ++ fieldBytes 3 z.ambient ++ [z.source.code, flagByte z.disagree, flagByte s.curfew])
        else .refused .badValue
      | _ => .refused .badLength))) ∧
    (exec (.readSensor tag payload) s = .next (s.answered .readSensor tag (
      match payload with
      | [a] =>
        if h : a.toNat < 4 then
          let x := s.sensors.get ⟨a.toNat, h⟩
          .done false ([x.health.code] ++ fieldBytes 1 x.missRun ++ fieldBytes 1 x.validRun ++ maybeBytes 3 x.reading)
        else .refused .badValue
      | _ => .refused .badLength))) ∧
    exec (.readCurve tag payload) s = .next (s.answered .readCurve tag (
      match payload with
      | [a] =>
        if h : a.toNat < 8 then
          let c := s.curves.get ⟨a.toNat, h⟩
          .done false (fieldBytes 1 c.live.length ++ c.live.flatMap (fun p => fieldBytes 3 p.x ++ fieldBytes 2 p.y)
            ++ [flagByte c.waiting.isSome])
        else .refused .badValue
      | _ => .refused .badLength))

/-- R21, R22: SET_SPAN: the tests in order, and what a smaller span takes out of service. -/
def Obligations.SetSpan : Prop :=
  ∀ (tag : Byte) (payload : List Byte) (s : State), s.takes .control →
    exec (.setSpan tag payload) s = .next (
      match payload with
      | [] => s.answered .setSpan tag (.done false (fieldBytes 1 s.span.size))
      | [a] =>
        if s.mode ≠ .halted then s.answered .setSpan tag (.refused .wrongMode)
        else
          let take (n : Span) : State :=
            if n.size < s.span.size ∧ ∃ i : FaceNo, n.size ≤ i.val ∧ s.claims.get i ≠ none then
              s.answered .setSpan tag (.refused .wrongState)
            else if n.size < s.span.size then
              State.answered { s with
                span := n
                faces := s.faces.mapNo (fun i f =>
                  if n.size ≤ i.val then { f with config := { f.config with enabled := false }, dyn := FaceDynamic.cleared .offline }
                  else f)
                changeSet := s.changeSet &&& ~~~(faceSetOf (fun i => decide (n.size ≤ i.val))) } .setSpan tag (.done false [a])
            else State.answered { s with span := n } .setSpan tag (.done false [a])
          if a = 8#8 then take .s8 else if a = 16#8 then take .s16 else if a = 32#8 then take .s32
          else s.answered .setSpan tag (.refused .badValue)
      | _ => s.answered .setSpan tag (.refused .badLength))

/-- R20: a face number is reduced modulo the span, and a face set is the set of its members so reduced. -/
def Obligations.FoldingBySpan : Prop :=
  (Span.size .s8 = 8 ∧ Span.size .s16 = 16 ∧ Span.size .s32 = 32) ∧
    (∀ (n : Span) (face : Nat), (n.fold face).val = face % n.size) ∧
    ∀ (n : Span) (m : FaceSet) (j : FaceNo),
      faceIn (n.foldSet m) j = true ↔ ∃ i : FaceNo, faceIn m i = true ∧ i.val % n.size = j.val

/-! ## Curves (chapter 3) -/

/-- R49 to R51, R47: LOAD_CURVE: what is refused, and where a valid list goes. The byte that stands for the mark, 1 for pending and 0
for live, is the model's choice (log entry 4). -/
def Obligations.LoadCurve : Prop :=
  ∀ (tag : Byte) (s : State), s.takes .control →
    (∀ payload : List Byte, payload.length < 2 →
      exec (.loadCurve tag payload) s = .next (s.answered .loadCurve tag (.refused .badLength))) ∧
    (∀ (number count : Byte) (rest : List Byte), rest.length ≠ 5 * count.toNat →
      exec (.loadCurve tag (number :: count :: rest)) s = .next (s.answered .loadCurve tag (.refused .badLength))) ∧
    ∀ (number : Byte) (l : List Breakpoint), l.length < 256 → (∀ p ∈ l, p.x < 16777216 ∧ p.y < 65536) →
      exec (.loadCurve tag (curvePayload number l)) s = .next (
        if h : number.toNat < 8 then
          let n : CurveNo := ⟨number.toNat, h⟩
          if ValidList l then
            if s.mode = .halted then
              State.answered { s with curves := s.curves.set n ⟨l, none⟩ } .loadCurve tag
                (.done false ([number] ++ fieldBytes 1 l.length ++ [0#8]))
            else
              State.answered { s with curves := s.curves.set n ⟨(s.curves.get n).live, some l⟩ } .loadCurve tag
                (.done false ([number] ++ fieldBytes 1 l.length ++ [1#8]))
          else s.answered .loadCurve tag (.refused .badValue)
        else s.answered .loadCurve tag (.refused .badValue))

/-- R57, R58: the lookup of a valid list: below the first breakpoint, from the last one on, and between two consecutive ones with the
product formed whole; a breakpoint gives its own luminance, a flat stretch the stretch's, the result lies within its segment, and it
never falls as the light rises. The engine looks a face's zone up in its curve's live list and hands the result on. -/
def Obligations.CurveLookup : Prop :=
  ∀ l : List Breakpoint, ValidList l →
    (∀ p ∈ l.head?, ∀ a < p.x, curveLookup l a = p.y) ∧
    (∀ p ∈ l.getLast?, ∀ a, p.x ≤ a → curveLookup l a = p.y) ∧
    (∀ (before after : List Breakpoint) (p q : Breakpoint), l = before ++ p :: q :: after → ∀ a, p.x ≤ a → a < q.x →
      curveLookup l a = p.y + (q.y - p.y) * (a - p.x) / (q.x - p.x) ∧
        (q.y = p.y → curveLookup l a = p.y) ∧ p.y ≤ curveLookup l a ∧ curveLookup l a ≤ q.y ∧
        (q.y - p.y) * (a - p.x) ≤ 999990000) ∧
    (∀ p ∈ l, curveLookup l p.x = p.y) ∧
    (∀ p ∈ l.head?, ∀ q ∈ l.getLast?, p.x < q.x) ∧
    (∀ a, curveLookup l a ≤ 10000) ∧
    (∀ a b, a ≤ b → curveLookup l a ≤ curveLookup l b) ∧
    (∀ p ∈ l.head?, p.x = 0 → ∀ a : Nat, ¬a < p.x) ∧
    (∀ p ∈ l.getLast?, p.x = 100000 → ∀ a ≤ 100000, p.x ≤ a → a = 100000) ∧
    ∀ (s : State) (i : FaceNo), (s.curves.get (s.faces.get i).config.curve).live = l →
      s.curveLuminance i = curveLookup l (s.zones.get (s.faces.get i).config.zone).ambient

/-! ## Requests on faces (chapters 4 to 6) -/

/-- R88, R20, R172: SET_FACE, with every selection of fields, and the payloads whose length disagrees with their mask. The model's own (log
entry 4): the mask is always sent, and the conditioning's level is a value that may be absent in the reply. -/
def Obligations.SetFace : Prop :=
  ∀ (tag : Byte) (s : State), s.takes .control →
    (∀ (face : Byte) (f : FaceFields), fieldsFit faceSizes f.list = true →
      exec (.setFace tag (facePayload face f)) s = .next (
        if f.zone.any (fun v => decide (8 ≤ v)) ∨ f.curve.any (fun v => decide (8 ≤ v)) ∨ f.proof.any (fun v => decide (2 ≤ v)) then
          s.answered .setFace tag (.refused .badValue)
        else
          let i := s.span.fold face.toNat
          let c := (s.faces.get i).config.updated f
          State.answered { s with faces := s.faces.set i { s.faces.get i with config := c } } .setFace tag
            (.done (outside 128 384 f.trim || outside 0 10000 f.cap || outside 1000 10000 f.fullScale
              || outside 1 10000 f.slewUp || outside 1 10000 f.slewDown) (fieldBytes 1 i.val ++ c.layout)))) ∧
    (∀ payload : List Byte, payload.length < 2 → exec (.setFace tag payload) s = .next (s.answered .setFace tag (.refused .badLength))) ∧
    ∀ (face mask : Byte) (rest : List Byte), rest.length ≠ markedBytes faceSizes mask.toNat →
      exec (.setFace tag (face :: mask :: rest)) s = .next (s.answered .setFace tag (.refused .badLength))

/-- R90, R20: ENABLE and DISABLE change the enabled flags of the folded set and nothing else. R80, R79: CONDITION stores the conditioning
of the folded set, restarts PATTERN, and names the shadowed faces. That CONDITION always carries its level, and so takes exactly 7 bytes,
is the model's choice (log entry 4). -/
def Obligations.EnableDisableCondition : Prop :=
  ∀ (tag : Byte) (payload : List Byte) (s : State), s.takes .control →
    let flagged (a b c d : Byte) (on : Bool) : State :=
      { s with faces := s.faces.mapNo (fun i f =>
          if faceIn (s.folded (mask4 a b c d)) i then { f with config := { f.config with enabled := on } } else f) }
    (exec (.enable tag payload) s = .next (
      match payload with
      | [a, b, c, d] => (flagged a b c d true).answered .enable tag (.done false (setBytes (s.folded (mask4 a b c d))))
      | _ => s.answered .enable tag (.refused .badLength))) ∧
    (exec (.disable tag payload) s = .next (
      match payload with
      | [a, b, c, d] => (flagged a b c d false).answered .disable tag (.done false (setBytes (s.folded (mask4 a b c d))))
      | _ => s.answered .disable tag (.refused .badLength))) ∧
    exec (.condition tag payload) s = .next (
      match payload with
      | [a, b, c, d, code, hi, lo] =>
        let m := s.folded (mask4 a b c d)
        let conditioned (x : Conditioning) (clamped : Bool) : State :=
          State.answered { s with faces := s.faces.mapNo (fun i f =>
              if faceIn m i then
                { f with
                  config := { f.config with conditioning := x }
                  dyn := if x = .pattern then { f.dyn with patternStep := 0 } else f.dyn }
              else f) } .condition tag (.done clamped (setBytes m ++ setBytes (m &&& s.claimed)))
        if code = 0#8 then conditioned .normal false
        else if code = 1#8 then conditioned (.fixed (min (word2 hi lo) 10000)) (decide (10000 < word2 hi lo))
        else if code = 2#8 then conditioned .blank false
        else if code = 3#8 then conditioned .pattern false
        else s.answered .condition tag (.refused .badValue)
      | _ => s.answered .condition tag (.refused .badLength))

/-- R100, R103: RESTORE takes a face from CUTOFF to ACTIVE unless OVERBRIGHT is asserted on it. That its DONE carries no data is the
model's reading (log entry 4). -/
def Obligations.RestoreRequest : Prop :=
  ∀ (tag : Byte) (payload : List Byte) (s : State), s.takes .control →
    exec (.restore tag payload) s = .next (
      match payload with
      | [a] =>
        let i := s.span.fold a.toNat
        let f := s.faces.get i
        if f.dyn.state = .cutoff ∧ kindIn f.dyn.asserted .overbright = false then
          (State.post { s with faces := s.faces.set i { f with dyn := { f.dyn with state := .active, commanded := some 0 } } }
            (.faceState i .active false)).answered .restore tag (.done false [])
        else s.answered .restore tag (.refused .wrongState)
      | _ => s.answered .restore tag (.refused .badLength))

/-- R104, R135, R147, R172: READ_FACE, AUTH_READ_FACE and READ_COUNTS change nothing and report the folded face's record. The model's
readings (log entry 4): AUTHORITY is 0, CUTOFFS takes 2 bytes, the runs stand kind by kind with the present run first, a width is the
byte 8 or 12, a shown code is 2 bytes and its width, the face flags are three bytes, and the levels of a conditioning and of a claim are
values that may be absent. -/
def Obligations.ReadFaceRecords : Prop :=
  ∀ (tag : Byte) (payload : List Byte) (s : State),
    (s.takes .control →
      exec (.readFace tag payload) s = .next (s.answered .readFace tag (
        match payload with
        | [a] => .done false (s.faceLayout (s.span.fold a.toNat))
        | _ => .refused .badLength)) ∧
      exec (.readCounts tag payload) s = .next (s.answered .readCounts tag (
        match payload with
        | [a] =>
          let i := s.span.fold a.toNat
          let n := (s.faces.get i).snap
          .done false (fieldBytes 1 i.val ++ fieldBytes 2 n.missed ++ fieldBytes 2 n.corrupt ++ fieldBytes 2 n.echo
            ++ fieldBytes 2 n.cutoffs ++ fieldBytes 2 s.snapRetries ++ maybeBytes 2 (s.snapStamp.map BitVec.toNat))
        | _ => .refused .badLength))) ∧
    (s.takes .authority →
      exec (.authReadFace tag payload) s = .next (s.answered .authReadFace tag (
        match payload with
        | [a] => .done false (s.authorityLayout (s.span.fold a.toNat))
        | _ => .refused .badLength)))

/-- R116, R117, R172: SET_PERSIST stores the values marked present, clamped, and changes no face. The model's own (log entry 4): the mask is
always sent, and its bits above the second field, `spare`, are ignored. -/
def Obligations.SetPersist : Prop :=
  ∀ (tag : Byte) (s : State), s.takes .control →
    (∀ (kind : Byte) (spare : Nat) (p q : Option Nat), spare < 64 → fieldsFit [1, 1] [p, q] = true →
      exec (.setPersist tag (persistPayload kind spare p q)) s = .next (
        if h : kind.toNat < 8 then
          let k : Fin 8 := ⟨kind.toNat, h⟩
          let new : Persistence := ⟨stored 1 15 (s.persist.get k).assert p, stored 1 15 (s.persist.get k).clear q⟩
          State.answered { s with persist := s.persist.set k new } .setPersist tag
            (.done (outside 1 15 p || outside 1 15 q) ([kind] ++ fieldBytes 1 new.assert ++ fieldBytes 1 new.clear))
        else s.answered .setPersist tag (.refused .badValue))) ∧
    (∀ payload : List Byte, payload.length < 2 →
      exec (.setPersist tag payload) s = .next (s.answered .setPersist tag (.refused .badLength))) ∧
    ∀ (kind mask : Byte) (rest : List Byte), rest.length ≠ markedBytes [1, 1] mask.toNat →
      exec (.setPersist tag (kind :: mask :: rest)) s = .next (s.answered .setPersist tag (.refused .badLength))

/-! ## Counters, notices and the authority (chapters 7 to 9) -/

/-- R143, R144, R146, R151, R152, R172: SNAPSHOT and SET_AUTOSNAP; FETCH removes up to four entries and starts the hold-off; CHANGES
collects the change set and the flag. The model's readings (log entry 4): the kinds of notices are numbered from 0, a subject is a byte
of presence and a byte of number, AUTHORITY is 0, and SNAPSHOT's new stamp is sent as its 2 bytes alone. -/
def Obligations.ReportRequests : Prop :=
  ∀ (tag : Byte) (payload : List Byte) (s : State), s.takes .control →
    (exec (.snapshot tag payload) s = .next (
      if payload = [] then s.snapshotted.answered .snapshot tag (.done false (fieldBytes 2 s.seconds.toNat))
      else s.answered .snapshot tag (.refused .badLength))) ∧
    (exec (.setAutosnap tag payload) s = .next (
      let same : State := s.answered .setAutosnap tag (.done false ([flagByte s.autosnap] ++ fieldBytes 1 s.autoCount))
      match payload with
      | [] => same
      | [a] =>
        if a = 0#8 ∨ a = 1#8 then
          if decide (a = 1#8) = s.autosnap then same
          else State.answered { s with autosnap := decide (a = 1#8), autoCount := 0 } .setAutosnap tag (.done false [a, 0#8])
        else s.answered .setAutosnap tag (.refused .badValue)
      | _ => s.answered .setAutosnap tag (.refused .badLength))) ∧
    (exec (.fetch tag payload) s = .next (
      if payload = [] then
        State.answered { s with queue := s.queue.drop 4, holdoffCount := s.holdoff } .fetch tag
          (.done false ((s.queue.take 4).flatMap Notice.layout ++ fieldBytes 1 (s.queue.length - 4)
            ++ [flagByte (decide (s.changeSet ≠ 0#32 ∨ s.otherLost = true))]))
      else s.answered .fetch tag (.refused .badLength))) ∧
    exec (.changes tag payload) s = .next (
      if payload = [] then
        State.answered { s with changeSet := 0#32, otherLost := false } .changes tag
          (.done false (setBytes s.changeSet ++ [flagByte s.otherLost]))
      else s.answered .changes tag (.refused .badLength))

/-- R129 to R131: CLAIM writes or renews the records of the folded set, RELEASE removes those there are, and each change of owner posts
its notice, in ascending order of face number. R139: AUTH_STATUS reports, then clears the restarted flag and empties both sets. The
model's readings of R172 (log entry 4): BLANK is 0 and CAP is 1, CLAIM takes exactly 9 bytes, and the cap level is a value that may be
absent in its reply. -/
def Obligations.AuthorityRequests : Prop :=
  ∀ (tag : Byte) (payload : List Byte) (s : State), s.takes .authority →
    (exec (.claim tag payload) s = .next (
      match payload with
      | [a, b, c, d, code, hi, lo, hh, hl] =>
        let m := s.folded (mask4 a b c d)
        let minutes := min (word2 hh hl) 1440
        let claimed (mode : ClaimMode) (clamped : Bool) : State :=
          (State.postAll { s with claims := s.claims.mapNo (fun i x => if faceIn m i then some ⟨mode, 60 * minutes⟩ else x) }
            ((allFaces.filter (fun i => faceIn m i && (s.claims.get i).isNone)).map (fun i => .owner i .authority false))).answered
            .claim tag (.done (clamped || decide (1440 < word2 hh hl))
              (setBytes m ++ [mode.code] ++ maybeBytes 2 mode.level ++ fieldBytes 3 (60 * minutes)))
        if code = 0#8 then claimed .blank false
        else if code = 1#8 then claimed (.cap (min (word2 hi lo) 10000)) (decide (10000 < word2 hi lo))
        else s.answered .claim tag (.refused .badValue)
      | _ => s.answered .claim tag (.refused .badLength))) ∧
    (exec (.release tag payload) s = .next (
      match payload with
      | [a, b, c, d] =>
        let m := s.folded (mask4 a b c d)
        (State.postAll { s with claims := s.claims.mapNo (fun i x => if faceIn m i then none else x) }
          ((allFaces.filter (fun i => faceIn m i && (s.claims.get i).isSome)).map (fun i => .owner i .operator false))).answered
          .release tag (.done false (setBytes (m &&& s.claimed)))
      | _ => s.answered .release tag (.refused .badLength))) ∧
    exec (.authStatus tag payload) s = .next (
      if payload = [] then
        State.answered { s with restarted := false, hazard := 0#32, lapsed := 0#32 } .authStatus tag
          (.done false ([s.mode.code, s.lastCause.code, flagByte s.restarted] ++ setBytes s.hazard ++ setBytes s.lapsed
            ++ setBytes s.claimed))
      else s.answered .authStatus tag (.refused .badLength))

/-- R149, R150: a notice posted replaces the entry of the same kind and subject where it stands, or is appended, or overflows. -/
def Obligations.NoticePosting : Prop :=
  ∀ (s : State) (b : NoticeBody),
    let same (m : Notice) : Prop := m.body.kindNo = b.kindNo ∧ m.body.subject = b.subject
    (∀ (before after : List Notice) (m : Notice), s.queue = before ++ m :: after → (∀ x ∈ before, ¬same x) → same m →
      s.post b = { s with queue := before ++ ⟨b, s.seconds⟩ :: after }) ∧
    ((∀ x ∈ s.queue, ¬same x) → s.queue.length < 24 → s.post b = { s with queue := s.queue ++ [⟨b, s.seconds⟩] }) ∧
    ((∀ x ∈ s.queue, ¬same x) → 24 ≤ s.queue.length →
      s.post b =
        match b with
        | .faceFault f _ | .faceState f _ _ | .owner f _ _ => { s with changeSet := s.changeSet ||| (1#32 <<< f.val) }
        | .restart _ | .mode _ | .sensor _ _ | .zone _ _ _ | .overrun | .snapshot => { s with otherLost := true })

/-- R138, R154: what ATTN and AATTN follow. -/
def Obligations.AttentionLines : Prop :=
  ∀ s : State,
    (s.attn = true ↔ s.resetting = false ∧ s.holdoffCount = 0 ∧ (s.queue ≠ [] ∨ s.changeSet ≠ 0#32 ∨ s.otherLost = true)) ∧
    (s.aattn = true ↔ s.resetting = false ∧ (s.hazard ≠ 0#32 ∨ s.lapsed ≠ 0#32 ∨ s.restarted = true))

/-- R42, R43, R132, R145, R153: the one-second event. Where a claim lapses and an automatic snapshot falls at once, the order of their
notices is a free value (log entry 6), and the statement holds for either order. Below it, the three rows that each make one of its
effects when its moment has come (log entry 7). -/
def Obligations.OneSecond : Prop :=
  ∀ s : State, s.resetting = false →
    (∃ bankFirst : Bool,
      let t := s.timeTicked
      let both : State :=
        if allFaces.any s.lapsing ∧ s.snapshotDue = true then
          let u : State := { t with freeChoices := t.freeChoices + 1 }
          if bankFirst then u.bankTicked.claimsTicked else u.claimsTicked.bankTicked
        else t.claimsTicked.bankTicked
      exec .oneSecondEvent s = .next { both with holdoffCount := s.holdoffCount - 1 }) ∧
    (∀ i : FaceNo, exec (.claimLapse i) s = .next (
      if s.lapsing i then
        State.post { s with claims := s.claims.set i none, lapsed := s.lapsed ||| (1#32 <<< i.val) } (.owner i .operator true)
      else s)) ∧
    (exec .autoSnapshot s = .next
      (if s.snapshotDue then State.post (State.snapshotted { s with autoCount := 0 }) .snapshot else s)) ∧
    exec .holdoffExpiry s = .next (if s.holdoffCount = 1 then { s with holdoffCount := 0 } else s)

/-! ## Cycles and slots (chapter 1) -/

/-- R2, R5, R6, R92, R102: an expiry of the cycle timer: an overrun while a cycle is in progress, else the cycle start with its latches,
its slot list and its first slot; a stopped timer does not expire (log entry 3). -/
def Obligations.CycleTimerExpiry : Prop :=
  ∀ s : State, s.resetting = false →
    exec .cycleTimerExpiry s = .next (
      if s.cycleTimer = none then s
      else if s.cycle ≠ none then
        State.post { s with overruns := min 65535 (s.overruns + 1), overrunWaiting := true, cycleTimer := none } .overrun
      else if s.mode = .halted then s
      else s.cycleStarted)

/-- R9 to R12, R26, R61, R70: a slot start: the frame chosen, what the engine or HOLD writes, and the proof word drawn; a face OFFLINE in
a slot, or in CUTOFF in HOLD, no run reaches (log entry 14). R4, R17, R18: an
attempt that ends VALID ends its slot, and one that ends CORRUPT or SILENT is retried or ends it; the slot end, and the slot or cycle
that follows. That the slot end uses the dmax of the slot start is the model's choice between R86 and R89 (log entry 17). -/
def Obligations.SlotStartsAndEnds : Prop :=
  (∀ (s : State) (served : List FaceNo) (i : FaceNo) (todo : List FaceNo),
    s.slotStart served i todo = s.slotStarted served i todo) ∧
    ∀ (s : State) (c : Cycle),
      (∀ reply : FaceReply, s.attemptValid c reply = s.slotEnded c (c.slot.outcomes ++ [.valid]) (some reply)) ∧
      ∀ o : AttemptOutcome, s.attemptFailed c o = s.attemptOver c o

/-- R11, R173, section 11.7: while an attempt's frame is being sent, its bytes stand on the chain and the driver is enabled; otherwise
the chain is silent. Every attempt of a slot sends the same bytes. That bits 2 to 7 of a LEVEL's flags byte are 0 is the model's choice
(log entry 4). -/
def Obligations.FrameOnTheChain : Prop :=
  (∀ (s : State) (c : Cycle), s.cycle = some c → c.slot.attempt = .sending →
    s.fde = true ∧ s.chainOut = some (chainFrame (BitVec.ofNat 8 c.slot.face.val) (
      match c.slot.frame with
      | .level w code none => [0x01#8, if w = .w12 then 1#8 else 0#8] ++ fieldBytes 2 code
      | .level w code (some p) => [0x01#8, if w = .w12 then 3#8 else 2#8] ++ fieldBytes 2 code ++ fieldBytes 2 p.toNat
      | .hold => [0x02#8]
      | .ident => [0x03#8]))) ∧
    (∀ s : State, (∀ c ∈ s.cycle, c.slot.attempt ≠ .sending) → s.fde = false ∧ s.chainOut = none) ∧
    ∀ (s : State) (c : Cycle) (o : AttemptOutcome), c.slot.outcomes.length + 1 < c.slot.permitted →
      (s.attemptFailed c o).chainOut = some (c.slot.frame.bytes c.slot.face)

/-- R13, R15, R16: the end of a frame's sending opens the window by the zone's extension; its expiry with no reply begun ends the attempt
SILENT; a gap inside a reply ends it CORRUPT. Presented at another moment these commands change nothing (log entry 3). -/
def Obligations.WindowsAndGaps : Prop :=
  ∀ s : State,
    (∀ c ∈ s.cycle,
      (exec .chainFrameSent s = .next (
        match c.slot.attempt with
        | .sending =>
          s.attempting c (.listening
            (if c.slot.extension = 1 then 4 else if c.slot.extension = 2 then 6 else 2) 0 false none)
        | .listening _ _ _ _ => s)) ∧
      (exec .replyWindowExpiry s = .next (
        match c.slot.attempt with
        | .listening _ _ _ none => s.attemptOver c .silent
        | .listening w n _ (some r) => s.attempting c (.listening w n true (some r))
        | .sending => s)) ∧
      exec .chainReplyGapTimeout s = .next (
        match c.slot.attempt with
        | .listening _ _ _ (some _) => s.attemptOver c .corrupt
        | .listening _ _ _ none | .sending => s)) ∧
    (s.cycle = none →
      exec .chainFrameSent s = .next s ∧ exec .replyWindowExpiry s = .next s ∧ exec .chainReplyGapTimeout s = .next s ∧
        ∀ b : Byte, exec (.chainByteReceived b) s = .next s)

/-- R13, R15, R16, R173: the bytes of a STATUS or IDENTITY from the face addressed, arriving in an open window, end the attempt VALID with
exactly the fields they carry. A reply that has begun is received to its end from any point of it, whether or not the window has run
out since. That the flag bits without a meaning, `spare`, are ignored is the model's choice (log entry 4). -/
def Obligations.ReplyByteByByteIsValid : Prop :=
  ∀ (s : State) (c : Cycle) (w n : Nat) (e : Bool) (taken : Option (List Byte)) (reply : FaceReply) (spare : Byte) (rest : List Byte),
    s.cycle = some c → c.slot.attempt = .listening w n e taken → reply.fits = true →
    stillToCome taken (chainFrame (BitVec.ofNat 8 c.slot.face.val) (reply.body spare)) rest →
    feedChain rest s = .next (s.slotEnded c (c.slot.outcomes ++ [.valid]) (some reply))

/-- R13 to R16: every other thing that can arrive in an open window: bytes before a start byte, a reply of a wrong address or a bad CRC,
a kind that cannot be measured out, and WAITs disregarded, honoured or one too many; each of them from its first byte, or from any point
of it once it has begun, whether or not the window has run out since (`e`). A disregarded WAIT during which the window ran out ends the
attempt SILENT: the model's reading (log entry 8). That flag bits without a meaning, `spare`, are ignored is log entry 4's. -/
def Obligations.OtherBytesInTheWindow : Prop :=
  ∀ (s : State) (c : Cycle) (w n : Nat) (e : Bool) (taken : Option (List Byte)), s.cycle = some c →
    c.slot.attempt = .listening w n e taken →
    (taken = none →
      (∀ b : Byte, b ≠ 0x5C#8 → exec (.chainByteReceived b) s = .next s) ∧
        exec (.chainByteReceived 0x5C#8) s = .next (s.attempting c (.listening w n e (some [])))) ∧
    (∀ (address hi lo : Byte) (body rest : List Byte),
      ((∃ (reply : FaceReply) (spare : Byte), reply.fits = true ∧ body = reply.body spare) ∨ body = [0x83#8]) →
      (address ≠ BitVec.ofNat 8 c.slot.face.val ∨ [hi, lo] ≠ crcBytes (crcOf (address :: body))) →
      stillToCome taken (0x5C#8 :: address :: (body ++ [hi, lo])) rest →
      feedChain rest s = .next (s.attemptOver c .corrupt)) ∧
    (∀ (address kind : Byte) (rest : List Byte), kind ≠ 0x81#8 → kind ≠ 0x82#8 → kind ≠ 0x83#8 →
      stillToCome taken [0x5C#8, address, kind] rest → feedChain rest s = .next (s.attemptOver c .corrupt)) ∧
    ∀ rest : List Byte, stillToCome taken (chainFrame (BitVec.ofNat 8 c.slot.face.val) [0x83#8]) rest →
      feedChain rest s = .next (
        if c.slot.extension = 3 then
          if n < 8 then s.attempting c (.listening 2 (n + 1) false none) else s.attemptOver c .silent
        else if e then s.attemptOver c .silent
        else s.attempting c (.listening w n false none))

/-! ## The Luminance Engine (chapter 4) and the proof generator -/

/-- R25: the generator's step, and a proof word's sixteen outputs, the first the most significant; any reset sets all its bits. -/
def Obligations.ProofGenerator : Prop :=
  (∀ r : BitVec 15, (proofStep r).toNat = 2 * r.toNat % 32768 + (if r.getLsbD 14 ≠ r.getLsbD 13 then 1 else 0)) ∧
    (∀ (r : BitVec 15) (k : Fin 16), (proofWord r).1.getLsbD (15 - k.val) = (proofStep^[k.val] r).getLsbD 14) ∧
    (∀ r : BitVec 15, (proofWord r).2 = proofStep^[16] r) ∧
    ∀ (cause : ResetCause) (straps : Straps) (s : State),
      (s.afterWarm cause straps).proofGen.toNat = 32767 ∧ (s.afterCold cause straps).proofGen.toNat = 32767

/-- R63: Stage C, rounded half up, with its ranges; it reads the face's trim and hands its result to Stage D unlimited. -/
def Obligations.StageC : Prop :=
  ∀ b t : Nat,
    trimmed b t = (b * t + 128) / 256 ∧ trimmed b 256 = b ∧
      (b ≤ 10000 → t ≤ 384 → trimmed b t ≤ 15000 ∧ b * t ≤ 3840000) ∧ trimmed 10000 384 = 15000 ∧
      FaceConfig.cold.trim = 256 ∧
      ∀ (s : State) (i : FaceNo), (s.faces.get i).dyn.capability = none →
        s.compensatedFor i = trimmed (s.curveLuminance i) (s.faces.get i).config.trim

/-- R64, R66, R68, R71: Stages D to G for a face, as the state stands at its slot start, and that the level never exceeds the cap (the
pattern step being at most 7). That an absent standing level, which R71 and R73 exclude, counts as 0 is the model's choice (log entry
14). -/
def Obligations.StagesDToG : Prop :=
  ∀ (s : State) (i : FaceNo),
    let f := s.faces.get i
    let z := s.zones.get f.config.zone
    let tm := trimmed (curveLookup (s.curves.get f.config.curve).live z.ambient) f.config.trim
    let claim := (s.claims.get i).map Claim.mode
    (∀ (c : Capability) (d : Nat), f.dyn.capability = some c → f.dyn.stringsOut = some d → 1 ≤ c.strings → c.strings ≤ 64 → 1 ≤ d →
      d ≤ z.config.dmax → d < c.strings → kindIn f.dyn.asserted .strings = false →
      s.compensatedFor i = tm * c.strings / (c.strings - d)) ∧
    ((f.dyn.capability = none ∨ f.dyn.stringsOut = none ∨ kindIn f.dyn.asserted .strings = true ∨
        (∃ c ∈ f.dyn.capability, c.strings = 0 ∨ 64 < c.strings) ∨
        (∃ d ∈ f.dyn.stringsOut, d = 0 ∨ z.config.dmax < d ∨ ∃ c ∈ f.dyn.capability, c.strings ≤ d)) →
      s.compensatedFor i = tm) ∧
    (let caps := [f.config.cap, z.config.zoneCap, 10000] ++ (if s.curfew then [z.config.curfewCap] else [])
        ++ (if kindIn f.dyn.asserted .thermal then [f.config.cap / 2] else [])
        ++ (match claim with | some (.cap v) => [v] | _ => [])
     s.capFor i ∈ caps ∧ ∀ v ∈ caps, s.capFor i ≤ v) ∧
    (s.goalFor i =
      if f.dyn.state = .cutoff then ⟨0, .immediate, false⟩
      else if claim = some .blank then ⟨0, .immediate, false⟩
      else match f.config.conditioning with
        | .normal => ⟨min (s.compensatedFor i) (s.capFor i), .slewed, false⟩
        | .fixed v => ⟨min v (s.capFor i), .slewed, false⟩
        | .blank => ⟨0, .immediate, false⟩
        | .pattern => ⟨f.dyn.patternStep * s.capFor i / 7, .direct, true⟩) ∧
    (let g := s.goalFor i
     let c1 := min (f.dyn.commanded.getD 0) (s.capFor i)
     s.levelFor i =
        match g.kind with
        | .immediate => 0
        | .direct => g.value
        | .slewed =>
          if c1 < g.value then min g.value (c1 + f.config.slewUp)
          else if g.value < c1 then max g.value (c1 - f.config.slewDown)
          else c1) ∧
    (f.dyn.patternStep ≤ 7 → s.levelFor i ≤ s.capFor i ∧ s.levelFor i ≤ 10000)

/-- R46, R66: the curfew test, and the law of the unset clock: no level the engine computes then exceeds the zone's curfew cap. -/
def Obligations.Curfew : Prop :=
  (∀ s : State, s.curfew = true ↔
    match s.dayClock with
    | none => True
    | some t =>
      (s.curfewStart < s.curfewEnd ∧ s.curfewStart ≤ t ∧ t < s.curfewEnd) ∨
        (s.curfewEnd < s.curfewStart ∧ (s.curfewStart ≤ t ∨ t < s.curfewEnd))) ∧
    ∀ (s : State) (i : FaceNo), s.dayClock = none → (s.faces.get i).dyn.patternStep ≤ 7 →
      s.levelFor i ≤ (s.zones.get (s.faces.get i).config.zone).config.curfewCap

/-- R74, R24: Stage H. -/
def Obligations.StageH : Prop :=
  (∀ (c f m : Nat) (w : Width), w = .w8 ∧ m = 255 ∨ w = .w12 ∧ m = 4095 →
    (f ≤ c → driveCode c f w = m) ∧ (c < f → driveCode c f w = (c * m + f / 2) / f) ∧ driveCode c f w ≤ m ∧
      (0 < f → driveCode 0 f w = 0) ∧ (c < f → c * m + f / 2 < f * (m + 1)) ∧ (c ≤ 10000 → c * m ≤ 40950000)) ∧
    (∀ (s : State) (i : FaceNo), s.codeFor i = driveCode (s.levelFor i) (s.faces.get i).config.fullScale (s.widthFor i)) ∧
    (∀ (s : State) (i : FaceNo), s.widthFor i = s.effective i) ∧
    FaceConfig.cold.fullScale = 7500

/-- R70, R10: every frame that a slot start sends to a face in CUTOFF, and to an ACTIVE face that holds a BLANK claim, is LEVEL with code
0, and its commanded level becomes 0. A full scale of 0 is outside its range (SettingInv). -/
def Obligations.DarkFaces : Prop :=
  ∀ (s : State) (served : List FaceNo) (i : FaceNo) (todo : List FaceNo), 0 < (s.faces.get i).config.fullScale → s.mode ≠ .halted →
    ((s.faces.get i).dyn.state = .cutoff ∨
      (s.faces.get i).dyn.state = .active ∧ (s.claims.get i).map Claim.mode = some .blank) →
    ∃ (width : Width) (proof : Option (BitVec 16)) (c : Cycle),
      (s.slotStart served i todo).cycle = some c ∧ c.slot.face = i ∧ c.slot.frame = .level width 0 proof ∧
        c.slot.wrote = some 0 ∧ (((s.slotStart served i todo).faces.get i).dyn.commanded = some 0)

/-! ## The Fault Monitor (chapter 6) and face life (chapter 5) -/

/-- R106 to R112: the observation of each kind from a slot report and the face's record before it. -/
def Obligations.ObservationRules : Prop :=
  ∀ (r : SlotReport) (d : FaceDynamic),
    let yes (p : Prop) [Decidable p] : Observation := if p then .present else .absent
    observe r d .noReply = yes (r.reply = none) ∧
    observe r d .badFrame = yes (.corrupt ∈ r.outcomes) ∧
    (∀ st : StatusReply, r.reply = some (.status st) → d.state = .active ∨ d.state = .cutoff →
      observe r d .thermal = yes (st.flags.thermal = true) ∧
      observe r d .power = yes (st.flags.power = true) ∧
      observe r d .door = yes (st.flags.door = true) ∧
      observe r d .strings = (match st.stringsOut with | none => .notObserved | some n => yes (r.dmax < n)) ∧
      observe r d .echo = (match r.frame with
        | .level w code proof =>
          yes (st.shown.width ≠ w ∨ st.shown.code ≠ code ∨ (proof ≠ none ∧ st.echo ≠ proof))
        | .hold | .ident => .notObserved) ∧
      observe r d .overbright = (match st.measured, d.capability, d.delivered with
        | some m, some c, some level => if c.photometer then yes (4 * m > 5 * level + 400) else .notObserved
        | _, _, _ => .notObserved)) ∧
    ((∀ st : StatusReply, r.reply = some (.status st) → ¬(d.state = .active ∨ d.state = .cutoff)) →
      ∀ k : FaultKind, k ≠ .noReply → k ≠ .badFrame → observe r d k = .notObserved)

/-- R113, R114, R124: what one slot's observations do to the runs, the asserted set and the ECHO counter, and what they leave. -/
def Obligations.PersistenceRules : Prop :=
  ∀ (persist : Table Persistence 8) (r : SlotReport) (d : FaceDynamic),
    let e := applyObservations persist r d
    (∀ k : FaultKind,
      let old := d.runs.get k.no
      let new := e.runs.get k.no
      match observe r d k with
      | .present => new = ⟨min 15 (old.present + 1), 0⟩ ∧
          (kindIn e.asserted k = true ↔ kindIn d.asserted k = true ∨ (persist.get k.no).assert ≤ min 15 (old.present + 1))
      | .absent => new = ⟨0, min 15 (old.absent + 1)⟩ ∧
          (kindIn e.asserted k = true ↔ kindIn d.asserted k = true ∧ min 15 (old.absent + 1) < (persist.get k.no).clear)
      | .notObserved => new = old ∧ kindIn e.asserted k = kindIn d.asserted k) ∧
    e = { d with
      runs := e.runs
      asserted := e.asserted
      live := if observe r d .echo = .present then { d.live with echo := min 4095 (d.live.echo + 1) } else d.live }

/-- R119, R93 to R97: the delivered level, the stored reports, and the change of face life at a slot end, for every frame, reply and
state; in particular the joins and the restarts. The model's own: the restart of a face restored or cut off during its slot (log entry
16), the full scale as the slot end finds it (log entry 17), and what a restart keeps (log entry 18). -/
def Obligations.FaceLife : Prop :=
  ∀ (s : State) (r : SlotReport),
    let f := s.faces.get r.face
    let d := applyObservations s.persist r f.dyn
    s.monitored r =
      match r.reply with
      | none => (d, none)
      | some (.status st) =>
        let d1 := match r.frame with
          | .level _ _ _ => { d with delivered := r.wrote }
          | .hold | .ident => d
        if f.dyn.state = .active ∨ f.dyn.state = .cutoff then
          ({ d1 with
            shown := some ⟨min st.shown.code (match st.shown.width with | .w8 => 255 | .w12 => 4095), st.shown.width⟩
            stringsOut := match st.stringsOut with | some n => some (min n 64) | none => d.stringsOut
            measured := match st.measured, d.capability with
              | some m, some c => if c.photometer then some m else d.measured
              | _, _ => d.measured
            flags := st.flags }, none)
        else (d1, none)
      | some (.identity x) =>
        let full := match x.maxWidth with | .w8 => 255 | .w12 => 4095
        let code := min x.code full
        let known := { d with
          capability := some ⟨x.maxWidth, x.photometer, if x.strings ≤ 64 then x.strings else 0⟩
          shown := some ⟨code, x.maxWidth⟩
          delivered := none }
        let level := min 10000 (code * f.config.fullScale / full)
        match f.dyn.state with
        | .joining => ({ known with state := .active, commanded := some level }, some (.active, false))
        | .active => ({ known with commanded := some level }, some (.active, true))
        | .cutoff => (known, some (.cutoff, true))
        | .offline => (d, none)

/-- R105, R118, R120, R98, R103: the Fault Monitor's steps in order: the record, the FACE_FAULT notice of a changed set, the FACE_STATE
notice of a join or restart, and the entry to CUTOFF with its counter, its place in the hazard set and its notice. -/
def Obligations.FaultMonitorSteps : Prop :=
  ∀ (s : State) (r : SlotReport),
    let f := s.faces.get r.face
    let d := (s.monitored r).1
    let notices := (if d.asserted = f.dyn.asserted then [] else [.faceFault r.face d.asserted])
      ++ (match (s.monitored r).2 with | none => [] | some (st, again) => [.faceState r.face st again])
    let g : Face := { f with dyn := d }
    s.faultMonitor r =
      if d.state = .active ∧ kindIn d.asserted .overbright = true ∧ (s.mode = .running ∨ s.mode = .halting) then
        State.postAll { s with
            faces := s.faces.set r.face { g with dyn := { d with
              state := .cutoff, live := { d.live with cutoffs := min 255 (d.live.cutoffs + 1) } } }
            hazard := s.hazard ||| (1#32 <<< r.face.val) }
          (notices ++ [.faceState r.face .cutoff false])
      else State.postAll { s with faces := s.faces.set r.face g } notices

/-! ## Sensors and zones (chapter 2) -/

/-- R27, R28, R32: an expiry of the scan timer restarts it and starts a scan: the naming acts on the sensors, and the first named sensor
is polled or the scan completes at once. R29 to R32: a poll's end as a valid read, as one not acknowledged, and as one not complete in
time, and the poll or scan completion that follows; the three data bytes, most significant first, and the read on the bus (R173), its
address byte ending in the read bit (log entry 15). The part ends a valid read with no acknowledge and a stop condition (R173), and one
not complete in time with a stop condition (R29); that it ends one not acknowledged so too is log entry 15's. A stopped timer does not expire, and with no poll under way nothing ends (log entry
3). A valid read cannot arrive for an UNUSED sensor (SensorInv). -/
def Obligations.ScansAndPolls : Prop :=
  ∀ s : State,
    (s.resetting = false →
      exec .scanTimerExpiry s = .next (
        if s.scanTimer = none then s else State.scanStarted { s with scanTimer := some s.scanPeriod })) ∧
    (∀ c ∈ s.scan,
      let x := s.sensors.get c.polling
      (s.sensorAddress = some (40 + c.polling.val) ∧
        s.sensorBus = some [.start, .address (BitVec.ofNat 8 (81 + 2 * c.polling.val)), .sensorAcknowledge, .data, .acknowledge, .data,
          .acknowledge, .data, .noAcknowledge, .stop]) ∧
      (∀ high middle low : Byte, x.health ≠ .unused →
        exec (.sensorPollEnd (.valid high middle low)) s = .next (
          let lux := min (word3 high middle low) 100000
          s.polled c [.noAcknowledge, .stop] (match x.health with
            | .unused => x
            | .doubtful => ⟨.good, 0, 0, some lux⟩
            | .good => { x with reading := some lux }
            | .failed => if x.validRun = 0 then { x with validRun := 1, reading := some lux } else ⟨.good, 0, 0, some lux⟩))) ∧
      (let failed : State := s.polled c [.stop] (match x.health with
          | .unused => x
          | .good => ⟨.doubtful, 1, 0, x.reading⟩
          | .doubtful => if x.missRun < 3 then { x with missRun := x.missRun + 1 } else ⟨.failed, 4, 0, x.reading⟩
          | .failed => ⟨.failed, 4, 0, x.reading⟩)
       exec (.sensorPollEnd .unacknowledged) s = .next failed ∧ exec .sensorPollTimeout s = .next failed)) ∧
    (s.scan = none →
      s.sensorAddress = none ∧ s.sensorBus = none ∧
        (∀ result : PollEnd, exec (.sensorPollEnd result) s = .next s) ∧ exec .sensorPollTimeout s = .next s)

/-- R34: the filter never passes the sample and never stalls short of it, and reaches it at once with a factor of 16. -/
def Obligations.FilterStep : Prop :=
  ∀ a sample kf kr : Nat, 1 ≤ kf → kf ≤ 16 → 1 ≤ kr → kr ≤ 16 →
    (filterStep a sample kf kr = if sample < a then a - ((a - sample) * kf + 15) / 16
      else if a < sample then a + max 1 ((sample - a) * kr / 16) else a) ∧
    (sample < a → sample ≤ filterStep a sample kf kr ∧ filterStep a sample kf kr < a) ∧
    (a < sample → a < filterStep a sample kf kr ∧ filterStep a sample kf kr ≤ sample) ∧
    (a ≤ 100000 → sample ≤ 100000 → filterStep a sample kf kr ≤ 100000) ∧
    (kf = 16 → kr = 16 → filterStep a sample kf kr = sample)

/-! ## What every step keeps -/

/-- The queue, the curves and the claims keep R149's, R47's and R128's conditions. -/
def Obligations.StepKeepsQueueCurvesClaims : Prop :=
  ∀ s t : State, QueueInv s → CurveInv s → ClaimInv s → step s = .next t → QueueInv t ∧ CurveInv t ∧ ClaimInv t

/-- R2 to R6, R12 to R14, R163: the cycle, the slot, the timers, the reset line and the modes keep agreeing. The empty queue, and the
hold-off and error counts of 0, while a reset is in progress are the model's choice (log entry 9). -/
def Obligations.StepKeepsChain : Prop :=
  ∀ s t : State, ChainInv s → step s = .next t → ChainInv t

/-- R10, R99, R112: CUTOFF and OVERBRIGHT keep apart as the modes say, and a face not yet ACTIVE has nothing else asserted. -/
def Obligations.StepKeepsCutoffs : Prop :=
  ∀ s t : State, ChainInv s → CutoffInv s → step s = .next t → CutoffInv t

/-- R73, R78, R69, R71: levels stay present exactly where they must be, and within their ranges. -/
def Obligations.StepKeepsLevels : Prop :=
  ∀ s t : State, LevelInv s → step s = .next t → LevelInv t

/-- Counters, counts, runs and settings stay within their ranges and on their steps. -/
def Obligations.StepKeepsRanges : Prop :=
  ∀ s t : State, CountInv s → SettingInv s → step s = .next t → CountInv t ∧ SettingInv t

/-- The sensors' records keep agreeing with their health, and the estimates stay in range. -/
def Obligations.StepKeepsSensors : Prop :=
  ∀ s t : State, SettingInv s → SensorInv s → step s = .next t → SensorInv t

/-- Every invariant above holds at reset. -/
def Obligations.InvariantsHoldAtReset : Prop :=
  let s := State.reset
  QueueInv s ∧ CurveInv s ∧ ClaimInv s ∧ ChainInv s ∧ CutoffInv s ∧ LevelInv s ∧ CountInv s ∧ SettingInv s ∧ SensorInv s
end

