-- ==== Sys2Proof/Laws/Tables.lean ====
section
/-! SUPPORT. Laws/Tables.lean: reading a table after writing it, and membership in sets of faces and of fault kinds. -/

namespace Sys2Proof

variable {α β : Type} {n : Nat}

@[simp] theorem Table.get_set_self (t : Table α n) (i : Fin n) (a : α) : (t.set i a).get i = a := by
  simp [Table.get, Table.set]

theorem Table.get_set (t : Table α n) (i j : Fin n) (a : α) : (t.set i a).get j = if j = i then a else t.get j := by
  by_cases h : j = i
  · subst h; simp
  · have h' : i.val ≠ j.val := fun e => h (Fin.ext e.symm)
    simp [Table.get, Table.set, h, List.getElem_set_ne h']

@[simp] theorem Table.get_set_ne (t : Table α n) {i j : Fin n} (h : j ≠ i) (a : α) : (t.set i a).get j = t.get j := by
  simp [Table.get_set, h]

@[simp] theorem Table.get_modify_self (t : Table α n) (i : Fin n) (f : α → α) : (t.modify i f).get i = f (t.get i) := by
  simp [Table.modify]

@[simp] theorem Table.get_replicate (a : α) (i : Fin n) : (Table.replicate n a).get i = a := by
  simp [Table.get, Table.replicate]

@[simp] theorem Table.get_map (f : α → β) (t : Table α n) (i : Fin n) : (t.map f).get i = f (t.get i) := by
  simp [Table.get, Table.map]

@[simp] theorem Table.get_mapNo (f : Fin n → α → β) (t : Table α n) (i : Fin n) : (t.mapNo f).get i = f i (t.get i) := by
  simp [Table.get, Table.mapNo]

/-- Two tables with the same record at every number are equal. -/
theorem Table.ext_get {t u : Table α n} (h : ∀ i, t.get i = u.get i) : t = u := by
  obtain ⟨a, ha⟩ := t
  obtain ⟨b, hb⟩ := u
  have : a = b := by
    apply List.ext_getElem (by rw [ha, hb])
    intro k h1 h2
    exact h ⟨k, ha ▸ h1⟩
  subst this; rfl

@[simp] theorem Table.set_get_self (t : Table α n) (i : Fin n) : t.set i (t.get i) = t := by
  apply Table.ext_get
  intro j
  by_cases h : j = i
  · subst h; simp
  · simp [h]

namespace Machine

theorem faceIn_zero (i : FaceNo) : faceIn 0#32 i = false := by simp [faceIn]

theorem faceIn_insert (s : FaceSet) (i j : FaceNo) : faceIn (faceInsert s i) j = (faceIn s j || decide (j = i)) := by
  have hi := i.isLt
  have hj := j.isLt
  simp only [faceIn, faceInsert, BitVec.getLsbD_or, BitVec.getLsbD_shiftLeft, BitVec.getLsbD_one]
  by_cases h : j = i
  · subst h; simp
  · have : j.val ≠ i.val := fun e => h (Fin.ext e)
    by_cases h2 : j.val < i.val
    · simp [h, h2]
    · have h3 : ¬ (j.val - i.val = 0) := by omega
      simp [h, h3]

theorem faceIn_erase (s : FaceSet) (i j : FaceNo) : faceIn (faceErase s i) j = (faceIn s j && !decide (j = i)) := by
  have hi := i.isLt
  have hj := j.isLt
  simp only [faceIn, faceErase, BitVec.getLsbD_and, BitVec.getLsbD_not, BitVec.getLsbD_shiftLeft, BitVec.getLsbD_one]
  by_cases h : j = i
  · subst h; simp
  · have : j.val ≠ i.val := fun e => h (Fin.ext e)
    by_cases h2 : j.val < i.val
    · simp [h, h2]
    · have h3 : ¬ (j.val - i.val = 0) := by omega
      simp [h, h3]

/-- The members of a set built by a test are the faces that pass it. -/
@[simp] theorem faceIn_faceSetOf (p : FaceNo → Bool) (i : FaceNo) : faceIn (faceSetOf p) i = p i := by
  have key : ∀ (l : List FaceNo) (s : FaceSet),
      faceIn (l.foldl (fun s i => if p i then faceInsert s i else s) s) i = (faceIn s i || (decide (i ∈ l) && p i)) := by
    intro l
    induction l with
    | nil => intro s; simp
    | cons a l ih =>
      intro s
      rw [List.foldl_cons, ih]
      by_cases hp : p a
      · by_cases hia : i = a
        · subst hia; simp [hp, faceIn_insert]
        · simp [hp, faceIn_insert, hia]
      · by_cases hia : i = a
        · subst hia; simp [hp]
        · simp [hp, hia]
  have := key allFaces 0#32
  simpa [faceSetOf, faceIn_zero, allFaces] using this

/-- Two sets with the same members are equal. -/
theorem faceSet_ext {s t : FaceSet} (h : ∀ i : FaceNo, faceIn s i = faceIn t i) : s = t := by
  apply BitVec.eq_of_getLsbD_eq
  intro i hi
  exact h ⟨i, hi⟩

theorem kindIn_insert (s : KindSet) (k l : FaultKind) : kindIn (kindInsert s k) l = (kindIn s l || decide (l = k)) := by
  cases k <;> cases l <;> simp [kindIn, kindInsert, FaultKind.no]

theorem kindIn_erase (s : KindSet) (k l : FaultKind) : kindIn (kindErase s k) l = (kindIn s l && !decide (l = k)) := by
  cases k <;> cases l <;> simp [kindIn, kindErase, FaultKind.no]

/-- A face number reduced modulo the span lies below it (R20). -/
theorem Span.fold_covers (n : Span) (face : Nat) : n.covers (n.fold face) = true := by
  have h : face % n.size < n.size := Nat.mod_lt _ (by cases n <;> decide)
  exact decide_eq_true h

end Machine
end Sys2Proof
end

