-- ==== Sys2Proof/Laws/State.lean ====
section
/-! SUPPORT. Laws/State.lean: what each named update of the state does to each field, so that no proof unfolds a record update. -/

namespace Sys2Proof.Machine

variable (s : State)

/-! ### A link port -/

@[simp] theorem setPort_mode (l : Link) (p : Port) : (s.setPort l p).mode = s.mode := by cases l <;> rfl
@[simp] theorem setPort_lastCause (l : Link) (p : Port) : (s.setPort l p).lastCause = s.lastCause := by cases l <;> rfl
@[simp] theorem setPort_resetLine (l : Link) (p : Port) : (s.setPort l p).resetLine = s.resetLine := by cases l <;> rfl
@[simp] theorem setPort_straps (l : Link) (p : Port) : (s.setPort l p).straps = s.straps := by cases l <;> rfl
@[simp] theorem setPort_hazard (l : Link) (p : Port) : (s.setPort l p).hazard = s.hazard := by cases l <;> rfl
@[simp] theorem setPort_lapsed (l : Link) (p : Port) : (s.setPort l p).lapsed = s.lapsed := by cases l <;> rfl
@[simp] theorem setPort_restarted (l : Link) (p : Port) : (s.setPort l p).restarted = s.restarted := by cases l <;> rfl
@[simp] theorem setPort_scanPeriod (l : Link) (p : Port) : (s.setPort l p).scanPeriod = s.scanPeriod := by cases l <;> rfl
@[simp] theorem setPort_scanTimer (l : Link) (p : Port) : (s.setPort l p).scanTimer = s.scanTimer := by cases l <;> rfl
@[simp] theorem setPort_scan (l : Link) (p : Port) : (s.setPort l p).scan = s.scan := by cases l <;> rfl
@[simp] theorem setPort_busEnd (l : Link) (p : Port) : (s.setPort l p).busEnd = s.busEnd := by cases l <;> rfl
@[simp] theorem setPort_sensors (l : Link) (p : Port) : (s.setPort l p).sensors = s.sensors := by cases l <;> rfl
@[simp] theorem setPort_zones (l : Link) (p : Port) : (s.setPort l p).zones = s.zones := by cases l <;> rfl
@[simp] theorem setPort_seconds (l : Link) (p : Port) : (s.setPort l p).seconds = s.seconds := by cases l <;> rfl
@[simp] theorem setPort_dayClock (l : Link) (p : Port) : (s.setPort l p).dayClock = s.dayClock := by cases l <;> rfl
@[simp] theorem setPort_curfewStart (l : Link) (p : Port) : (s.setPort l p).curfewStart = s.curfewStart := by cases l <;> rfl
@[simp] theorem setPort_curfewEnd (l : Link) (p : Port) : (s.setPort l p).curfewEnd = s.curfewEnd := by cases l <;> rfl
@[simp] theorem setPort_curves (l : Link) (p : Port) : (s.setPort l p).curves = s.curves := by cases l <;> rfl
@[simp] theorem setPort_faces (l : Link) (p : Port) : (s.setPort l p).faces = s.faces := by cases l <;> rfl
@[simp] theorem setPort_claims (l : Link) (p : Port) : (s.setPort l p).claims = s.claims := by cases l <;> rfl
@[simp] theorem setPort_period (l : Link) (p : Port) : (s.setPort l p).period = s.period := by cases l <;> rfl
@[simp] theorem setPort_cycleTimer (l : Link) (p : Port) : (s.setPort l p).cycleTimer = s.cycleTimer := by cases l <;> rfl
@[simp] theorem setPort_overrunWaiting (l : Link) (p : Port) : (s.setPort l p).overrunWaiting = s.overrunWaiting := by cases l <;> rfl
@[simp] theorem setPort_cycle (l : Link) (p : Port) : (s.setPort l p).cycle = s.cycle := by cases l <;> rfl
@[simp] theorem setPort_retries (l : Link) (p : Port) : (s.setPort l p).retries = s.retries := by cases l <;> rfl
@[simp] theorem setPort_span (l : Link) (p : Port) : (s.setPort l p).span = s.span := by cases l <;> rfl
@[simp] theorem setPort_proofGen (l : Link) (p : Port) : (s.setPort l p).proofGen = s.proofGen := by cases l <;> rfl
@[simp] theorem setPort_cycleCount (l : Link) (p : Port) : (s.setPort l p).cycleCount = s.cycleCount := by cases l <;> rfl
@[simp] theorem setPort_persist (l : Link) (p : Port) : (s.setPort l p).persist = s.persist := by cases l <;> rfl
@[simp] theorem setPort_retriesSent (l : Link) (p : Port) : (s.setPort l p).retriesSent = s.retriesSent := by cases l <;> rfl
@[simp] theorem setPort_overruns (l : Link) (p : Port) : (s.setPort l p).overruns = s.overruns := by cases l <;> rfl
@[simp] theorem setPort_snapRetries (l : Link) (p : Port) : (s.setPort l p).snapRetries = s.snapRetries := by cases l <;> rfl
@[simp] theorem setPort_snapStamp (l : Link) (p : Port) : (s.setPort l p).snapStamp = s.snapStamp := by cases l <;> rfl
@[simp] theorem setPort_autosnap (l : Link) (p : Port) : (s.setPort l p).autosnap = s.autosnap := by cases l <;> rfl
@[simp] theorem setPort_autoCount (l : Link) (p : Port) : (s.setPort l p).autoCount = s.autoCount := by cases l <;> rfl
@[simp] theorem setPort_queue (l : Link) (p : Port) : (s.setPort l p).queue = s.queue := by cases l <;> rfl
@[simp] theorem setPort_changeSet (l : Link) (p : Port) : (s.setPort l p).changeSet = s.changeSet := by cases l <;> rfl
@[simp] theorem setPort_otherLost (l : Link) (p : Port) : (s.setPort l p).otherLost = s.otherLost := by cases l <;> rfl
@[simp] theorem setPort_holdoff (l : Link) (p : Port) : (s.setPort l p).holdoff = s.holdoff := by cases l <;> rfl
@[simp] theorem setPort_holdoffCount (l : Link) (p : Port) : (s.setPort l p).holdoffCount = s.holdoffCount := by cases l <;> rfl
@[simp] theorem setPort_freeChoices (l : Link) (p : Port) : (s.setPort l p).freeChoices = s.freeChoices := by cases l <;> rfl
@[simp] theorem setPort_pending (l : Link) (p : Port) : (s.setPort l p).pending = s.pending := by cases l <;> rfl

@[simp] theorem setPort_control_control (p : Port) : (s.setPort .control p).control = p := rfl
@[simp] theorem setPort_control_authority (p : Port) : (s.setPort .control p).authority = s.authority := rfl
@[simp] theorem setPort_authority_authority (p : Port) : (s.setPort .authority p).authority = p := rfl
@[simp] theorem setPort_authority_control (p : Port) : (s.setPort .authority p).control = s.control := rfl
@[simp] theorem port_setPort_self (l : Link) (p : Port) : (s.setPort l p).port l = p := by cases l <;> rfl
theorem port_setPort_ne {l m : Link} (h : m ≠ l) (p : Port) : (s.setPort l p).port m = s.port m := by
  cases l <;> cases m <;> first | rfl | exact absurd rfl h
@[simp] theorem setPort_setPort (l : Link) (p q : Port) : (s.setPort l p).setPort l q = s.setPort l q := by cases l <;> rfl
@[simp] theorem setPort_port (l : Link) : s.setPort l (s.port l) = s := by cases l <;> rfl
@[simp] theorem setPort_resetting (l : Link) (p : Port) : (s.setPort l p).resetting = s.resetting := by cases l <;> rfl

/-! ### setFace -/

@[simp] theorem setFace_mode (i : FaceNo) (f : Face) : (s.setFace i f).mode = s.mode := rfl
@[simp] theorem setFace_lastCause (i : FaceNo) (f : Face) : (s.setFace i f).lastCause = s.lastCause := rfl
@[simp] theorem setFace_resetLine (i : FaceNo) (f : Face) : (s.setFace i f).resetLine = s.resetLine := rfl
@[simp] theorem setFace_straps (i : FaceNo) (f : Face) : (s.setFace i f).straps = s.straps := rfl
@[simp] theorem setFace_control (i : FaceNo) (f : Face) : (s.setFace i f).control = s.control := rfl
@[simp] theorem setFace_authority (i : FaceNo) (f : Face) : (s.setFace i f).authority = s.authority := rfl
@[simp] theorem setFace_hazard (i : FaceNo) (f : Face) : (s.setFace i f).hazard = s.hazard := rfl
@[simp] theorem setFace_lapsed (i : FaceNo) (f : Face) : (s.setFace i f).lapsed = s.lapsed := rfl
@[simp] theorem setFace_restarted (i : FaceNo) (f : Face) : (s.setFace i f).restarted = s.restarted := rfl
@[simp] theorem setFace_scanPeriod (i : FaceNo) (f : Face) : (s.setFace i f).scanPeriod = s.scanPeriod := rfl
@[simp] theorem setFace_scanTimer (i : FaceNo) (f : Face) : (s.setFace i f).scanTimer = s.scanTimer := rfl
@[simp] theorem setFace_scan (i : FaceNo) (f : Face) : (s.setFace i f).scan = s.scan := rfl
@[simp] theorem setFace_busEnd (i : FaceNo) (f : Face) : (s.setFace i f).busEnd = s.busEnd := rfl
@[simp] theorem setFace_sensors (i : FaceNo) (f : Face) : (s.setFace i f).sensors = s.sensors := rfl
@[simp] theorem setFace_zones (i : FaceNo) (f : Face) : (s.setFace i f).zones = s.zones := rfl
@[simp] theorem setFace_seconds (i : FaceNo) (f : Face) : (s.setFace i f).seconds = s.seconds := rfl
@[simp] theorem setFace_dayClock (i : FaceNo) (f : Face) : (s.setFace i f).dayClock = s.dayClock := rfl
@[simp] theorem setFace_curfewStart (i : FaceNo) (f : Face) : (s.setFace i f).curfewStart = s.curfewStart := rfl
@[simp] theorem setFace_curfewEnd (i : FaceNo) (f : Face) : (s.setFace i f).curfewEnd = s.curfewEnd := rfl
@[simp] theorem setFace_curves (i : FaceNo) (f : Face) : (s.setFace i f).curves = s.curves := rfl
@[simp] theorem setFace_faces (i : FaceNo) (f : Face) : (s.setFace i f).faces = s.faces.set i f := rfl
@[simp] theorem setFace_claims (i : FaceNo) (f : Face) : (s.setFace i f).claims = s.claims := rfl
@[simp] theorem setFace_period (i : FaceNo) (f : Face) : (s.setFace i f).period = s.period := rfl
@[simp] theorem setFace_cycleTimer (i : FaceNo) (f : Face) : (s.setFace i f).cycleTimer = s.cycleTimer := rfl
@[simp] theorem setFace_overrunWaiting (i : FaceNo) (f : Face) : (s.setFace i f).overrunWaiting = s.overrunWaiting := rfl
@[simp] theorem setFace_cycle (i : FaceNo) (f : Face) : (s.setFace i f).cycle = s.cycle := rfl
@[simp] theorem setFace_retries (i : FaceNo) (f : Face) : (s.setFace i f).retries = s.retries := rfl
@[simp] theorem setFace_span (i : FaceNo) (f : Face) : (s.setFace i f).span = s.span := rfl
@[simp] theorem setFace_proofGen (i : FaceNo) (f : Face) : (s.setFace i f).proofGen = s.proofGen := rfl
@[simp] theorem setFace_cycleCount (i : FaceNo) (f : Face) : (s.setFace i f).cycleCount = s.cycleCount := rfl
@[simp] theorem setFace_persist (i : FaceNo) (f : Face) : (s.setFace i f).persist = s.persist := rfl
@[simp] theorem setFace_retriesSent (i : FaceNo) (f : Face) : (s.setFace i f).retriesSent = s.retriesSent := rfl
@[simp] theorem setFace_overruns (i : FaceNo) (f : Face) : (s.setFace i f).overruns = s.overruns := rfl
@[simp] theorem setFace_snapRetries (i : FaceNo) (f : Face) : (s.setFace i f).snapRetries = s.snapRetries := rfl
@[simp] theorem setFace_snapStamp (i : FaceNo) (f : Face) : (s.setFace i f).snapStamp = s.snapStamp := rfl
@[simp] theorem setFace_autosnap (i : FaceNo) (f : Face) : (s.setFace i f).autosnap = s.autosnap := rfl
@[simp] theorem setFace_autoCount (i : FaceNo) (f : Face) : (s.setFace i f).autoCount = s.autoCount := rfl
@[simp] theorem setFace_queue (i : FaceNo) (f : Face) : (s.setFace i f).queue = s.queue := rfl
@[simp] theorem setFace_changeSet (i : FaceNo) (f : Face) : (s.setFace i f).changeSet = s.changeSet := rfl
@[simp] theorem setFace_otherLost (i : FaceNo) (f : Face) : (s.setFace i f).otherLost = s.otherLost := rfl
@[simp] theorem setFace_holdoff (i : FaceNo) (f : Face) : (s.setFace i f).holdoff = s.holdoff := rfl
@[simp] theorem setFace_holdoffCount (i : FaceNo) (f : Face) : (s.setFace i f).holdoffCount = s.holdoffCount := rfl
@[simp] theorem setFace_freeChoices (i : FaceNo) (f : Face) : (s.setFace i f).freeChoices = s.freeChoices := rfl
@[simp] theorem setFace_pending (i : FaceNo) (f : Face) : (s.setFace i f).pending = s.pending := rfl
@[simp] theorem setFace_resetting (i : FaceNo) (f : Face) : (s.setFace i f).resetting = s.resetting := rfl

/-! ### setSensor -/

@[simp] theorem setSensor_mode (n : SensorNo) (x : Sensor) : (s.setSensor n x).mode = s.mode := rfl
@[simp] theorem setSensor_lastCause (n : SensorNo) (x : Sensor) : (s.setSensor n x).lastCause = s.lastCause := rfl
@[simp] theorem setSensor_resetLine (n : SensorNo) (x : Sensor) : (s.setSensor n x).resetLine = s.resetLine := rfl
@[simp] theorem setSensor_straps (n : SensorNo) (x : Sensor) : (s.setSensor n x).straps = s.straps := rfl
@[simp] theorem setSensor_control (n : SensorNo) (x : Sensor) : (s.setSensor n x).control = s.control := rfl
@[simp] theorem setSensor_authority (n : SensorNo) (x : Sensor) : (s.setSensor n x).authority = s.authority := rfl
@[simp] theorem setSensor_hazard (n : SensorNo) (x : Sensor) : (s.setSensor n x).hazard = s.hazard := rfl
@[simp] theorem setSensor_lapsed (n : SensorNo) (x : Sensor) : (s.setSensor n x).lapsed = s.lapsed := rfl
@[simp] theorem setSensor_restarted (n : SensorNo) (x : Sensor) : (s.setSensor n x).restarted = s.restarted := rfl
@[simp] theorem setSensor_scanPeriod (n : SensorNo) (x : Sensor) : (s.setSensor n x).scanPeriod = s.scanPeriod := rfl
@[simp] theorem setSensor_scanTimer (n : SensorNo) (x : Sensor) : (s.setSensor n x).scanTimer = s.scanTimer := rfl
@[simp] theorem setSensor_scan (n : SensorNo) (x : Sensor) : (s.setSensor n x).scan = s.scan := rfl
@[simp] theorem setSensor_busEnd (n : SensorNo) (x : Sensor) : (s.setSensor n x).busEnd = s.busEnd := rfl
@[simp] theorem setSensor_sensors (n : SensorNo) (x : Sensor) : (s.setSensor n x).sensors = s.sensors.set n x := rfl
@[simp] theorem setSensor_zones (n : SensorNo) (x : Sensor) : (s.setSensor n x).zones = s.zones := rfl
@[simp] theorem setSensor_seconds (n : SensorNo) (x : Sensor) : (s.setSensor n x).seconds = s.seconds := rfl
@[simp] theorem setSensor_dayClock (n : SensorNo) (x : Sensor) : (s.setSensor n x).dayClock = s.dayClock := rfl
@[simp] theorem setSensor_curfewStart (n : SensorNo) (x : Sensor) : (s.setSensor n x).curfewStart = s.curfewStart := rfl
@[simp] theorem setSensor_curfewEnd (n : SensorNo) (x : Sensor) : (s.setSensor n x).curfewEnd = s.curfewEnd := rfl
@[simp] theorem setSensor_curves (n : SensorNo) (x : Sensor) : (s.setSensor n x).curves = s.curves := rfl
@[simp] theorem setSensor_faces (n : SensorNo) (x : Sensor) : (s.setSensor n x).faces = s.faces := rfl
@[simp] theorem setSensor_claims (n : SensorNo) (x : Sensor) : (s.setSensor n x).claims = s.claims := rfl
@[simp] theorem setSensor_period (n : SensorNo) (x : Sensor) : (s.setSensor n x).period = s.period := rfl
@[simp] theorem setSensor_cycleTimer (n : SensorNo) (x : Sensor) : (s.setSensor n x).cycleTimer = s.cycleTimer := rfl
@[simp] theorem setSensor_overrunWaiting (n : SensorNo) (x : Sensor) : (s.setSensor n x).overrunWaiting = s.overrunWaiting := rfl
@[simp] theorem setSensor_cycle (n : SensorNo) (x : Sensor) : (s.setSensor n x).cycle = s.cycle := rfl
@[simp] theorem setSensor_retries (n : SensorNo) (x : Sensor) : (s.setSensor n x).retries = s.retries := rfl
@[simp] theorem setSensor_span (n : SensorNo) (x : Sensor) : (s.setSensor n x).span = s.span := rfl
@[simp] theorem setSensor_proofGen (n : SensorNo) (x : Sensor) : (s.setSensor n x).proofGen = s.proofGen := rfl
@[simp] theorem setSensor_cycleCount (n : SensorNo) (x : Sensor) : (s.setSensor n x).cycleCount = s.cycleCount := rfl
@[simp] theorem setSensor_persist (n : SensorNo) (x : Sensor) : (s.setSensor n x).persist = s.persist := rfl
@[simp] theorem setSensor_retriesSent (n : SensorNo) (x : Sensor) : (s.setSensor n x).retriesSent = s.retriesSent := rfl
@[simp] theorem setSensor_overruns (n : SensorNo) (x : Sensor) : (s.setSensor n x).overruns = s.overruns := rfl
@[simp] theorem setSensor_snapRetries (n : SensorNo) (x : Sensor) : (s.setSensor n x).snapRetries = s.snapRetries := rfl
@[simp] theorem setSensor_snapStamp (n : SensorNo) (x : Sensor) : (s.setSensor n x).snapStamp = s.snapStamp := rfl
@[simp] theorem setSensor_autosnap (n : SensorNo) (x : Sensor) : (s.setSensor n x).autosnap = s.autosnap := rfl
@[simp] theorem setSensor_autoCount (n : SensorNo) (x : Sensor) : (s.setSensor n x).autoCount = s.autoCount := rfl
@[simp] theorem setSensor_queue (n : SensorNo) (x : Sensor) : (s.setSensor n x).queue = s.queue := rfl
@[simp] theorem setSensor_changeSet (n : SensorNo) (x : Sensor) : (s.setSensor n x).changeSet = s.changeSet := rfl
@[simp] theorem setSensor_otherLost (n : SensorNo) (x : Sensor) : (s.setSensor n x).otherLost = s.otherLost := rfl
@[simp] theorem setSensor_holdoff (n : SensorNo) (x : Sensor) : (s.setSensor n x).holdoff = s.holdoff := rfl
@[simp] theorem setSensor_holdoffCount (n : SensorNo) (x : Sensor) : (s.setSensor n x).holdoffCount = s.holdoffCount := rfl
@[simp] theorem setSensor_freeChoices (n : SensorNo) (x : Sensor) : (s.setSensor n x).freeChoices = s.freeChoices := rfl
@[simp] theorem setSensor_pending (n : SensorNo) (x : Sensor) : (s.setSensor n x).pending = s.pending := rfl
@[simp] theorem setSensor_resetting (n : SensorNo) (x : Sensor) : (s.setSensor n x).resetting = s.resetting := rfl

/-! ### setZone -/

@[simp] theorem setZone_mode (n : ZoneNo) (z : Zone) : (s.setZone n z).mode = s.mode := rfl
@[simp] theorem setZone_lastCause (n : ZoneNo) (z : Zone) : (s.setZone n z).lastCause = s.lastCause := rfl
@[simp] theorem setZone_resetLine (n : ZoneNo) (z : Zone) : (s.setZone n z).resetLine = s.resetLine := rfl
@[simp] theorem setZone_straps (n : ZoneNo) (z : Zone) : (s.setZone n z).straps = s.straps := rfl
@[simp] theorem setZone_control (n : ZoneNo) (z : Zone) : (s.setZone n z).control = s.control := rfl
@[simp] theorem setZone_authority (n : ZoneNo) (z : Zone) : (s.setZone n z).authority = s.authority := rfl
@[simp] theorem setZone_hazard (n : ZoneNo) (z : Zone) : (s.setZone n z).hazard = s.hazard := rfl
@[simp] theorem setZone_lapsed (n : ZoneNo) (z : Zone) : (s.setZone n z).lapsed = s.lapsed := rfl
@[simp] theorem setZone_restarted (n : ZoneNo) (z : Zone) : (s.setZone n z).restarted = s.restarted := rfl
@[simp] theorem setZone_scanPeriod (n : ZoneNo) (z : Zone) : (s.setZone n z).scanPeriod = s.scanPeriod := rfl
@[simp] theorem setZone_scanTimer (n : ZoneNo) (z : Zone) : (s.setZone n z).scanTimer = s.scanTimer := rfl
@[simp] theorem setZone_scan (n : ZoneNo) (z : Zone) : (s.setZone n z).scan = s.scan := rfl
@[simp] theorem setZone_busEnd (n : ZoneNo) (z : Zone) : (s.setZone n z).busEnd = s.busEnd := rfl
@[simp] theorem setZone_sensors (n : ZoneNo) (z : Zone) : (s.setZone n z).sensors = s.sensors := rfl
@[simp] theorem setZone_zones (n : ZoneNo) (z : Zone) : (s.setZone n z).zones = s.zones.set n z := rfl
@[simp] theorem setZone_seconds (n : ZoneNo) (z : Zone) : (s.setZone n z).seconds = s.seconds := rfl
@[simp] theorem setZone_dayClock (n : ZoneNo) (z : Zone) : (s.setZone n z).dayClock = s.dayClock := rfl
@[simp] theorem setZone_curfewStart (n : ZoneNo) (z : Zone) : (s.setZone n z).curfewStart = s.curfewStart := rfl
@[simp] theorem setZone_curfewEnd (n : ZoneNo) (z : Zone) : (s.setZone n z).curfewEnd = s.curfewEnd := rfl
@[simp] theorem setZone_curves (n : ZoneNo) (z : Zone) : (s.setZone n z).curves = s.curves := rfl
@[simp] theorem setZone_faces (n : ZoneNo) (z : Zone) : (s.setZone n z).faces = s.faces := rfl
@[simp] theorem setZone_claims (n : ZoneNo) (z : Zone) : (s.setZone n z).claims = s.claims := rfl
@[simp] theorem setZone_period (n : ZoneNo) (z : Zone) : (s.setZone n z).period = s.period := rfl
@[simp] theorem setZone_cycleTimer (n : ZoneNo) (z : Zone) : (s.setZone n z).cycleTimer = s.cycleTimer := rfl
@[simp] theorem setZone_overrunWaiting (n : ZoneNo) (z : Zone) : (s.setZone n z).overrunWaiting = s.overrunWaiting := rfl
@[simp] theorem setZone_cycle (n : ZoneNo) (z : Zone) : (s.setZone n z).cycle = s.cycle := rfl
@[simp] theorem setZone_retries (n : ZoneNo) (z : Zone) : (s.setZone n z).retries = s.retries := rfl
@[simp] theorem setZone_span (n : ZoneNo) (z : Zone) : (s.setZone n z).span = s.span := rfl
@[simp] theorem setZone_proofGen (n : ZoneNo) (z : Zone) : (s.setZone n z).proofGen = s.proofGen := rfl
@[simp] theorem setZone_cycleCount (n : ZoneNo) (z : Zone) : (s.setZone n z).cycleCount = s.cycleCount := rfl
@[simp] theorem setZone_persist (n : ZoneNo) (z : Zone) : (s.setZone n z).persist = s.persist := rfl
@[simp] theorem setZone_retriesSent (n : ZoneNo) (z : Zone) : (s.setZone n z).retriesSent = s.retriesSent := rfl
@[simp] theorem setZone_overruns (n : ZoneNo) (z : Zone) : (s.setZone n z).overruns = s.overruns := rfl
@[simp] theorem setZone_snapRetries (n : ZoneNo) (z : Zone) : (s.setZone n z).snapRetries = s.snapRetries := rfl
@[simp] theorem setZone_snapStamp (n : ZoneNo) (z : Zone) : (s.setZone n z).snapStamp = s.snapStamp := rfl
@[simp] theorem setZone_autosnap (n : ZoneNo) (z : Zone) : (s.setZone n z).autosnap = s.autosnap := rfl
@[simp] theorem setZone_autoCount (n : ZoneNo) (z : Zone) : (s.setZone n z).autoCount = s.autoCount := rfl
@[simp] theorem setZone_queue (n : ZoneNo) (z : Zone) : (s.setZone n z).queue = s.queue := rfl
@[simp] theorem setZone_changeSet (n : ZoneNo) (z : Zone) : (s.setZone n z).changeSet = s.changeSet := rfl
@[simp] theorem setZone_otherLost (n : ZoneNo) (z : Zone) : (s.setZone n z).otherLost = s.otherLost := rfl
@[simp] theorem setZone_holdoff (n : ZoneNo) (z : Zone) : (s.setZone n z).holdoff = s.holdoff := rfl
@[simp] theorem setZone_holdoffCount (n : ZoneNo) (z : Zone) : (s.setZone n z).holdoffCount = s.holdoffCount := rfl
@[simp] theorem setZone_freeChoices (n : ZoneNo) (z : Zone) : (s.setZone n z).freeChoices = s.freeChoices := rfl
@[simp] theorem setZone_pending (n : ZoneNo) (z : Zone) : (s.setZone n z).pending = s.pending := rfl
@[simp] theorem setZone_resetting (n : ZoneNo) (z : Zone) : (s.setZone n z).resetting = s.resetting := rfl

/-! ### setClaim -/

@[simp] theorem setClaim_mode (i : FaceNo) (c : Option Claim) : (s.setClaim i c).mode = s.mode := rfl
@[simp] theorem setClaim_lastCause (i : FaceNo) (c : Option Claim) : (s.setClaim i c).lastCause = s.lastCause := rfl
@[simp] theorem setClaim_resetLine (i : FaceNo) (c : Option Claim) : (s.setClaim i c).resetLine = s.resetLine := rfl
@[simp] theorem setClaim_straps (i : FaceNo) (c : Option Claim) : (s.setClaim i c).straps = s.straps := rfl
@[simp] theorem setClaim_control (i : FaceNo) (c : Option Claim) : (s.setClaim i c).control = s.control := rfl
@[simp] theorem setClaim_authority (i : FaceNo) (c : Option Claim) : (s.setClaim i c).authority = s.authority := rfl
@[simp] theorem setClaim_hazard (i : FaceNo) (c : Option Claim) : (s.setClaim i c).hazard = s.hazard := rfl
@[simp] theorem setClaim_lapsed (i : FaceNo) (c : Option Claim) : (s.setClaim i c).lapsed = s.lapsed := rfl
@[simp] theorem setClaim_restarted (i : FaceNo) (c : Option Claim) : (s.setClaim i c).restarted = s.restarted := rfl
@[simp] theorem setClaim_scanPeriod (i : FaceNo) (c : Option Claim) : (s.setClaim i c).scanPeriod = s.scanPeriod := rfl
@[simp] theorem setClaim_scanTimer (i : FaceNo) (c : Option Claim) : (s.setClaim i c).scanTimer = s.scanTimer := rfl
@[simp] theorem setClaim_scan (i : FaceNo) (c : Option Claim) : (s.setClaim i c).scan = s.scan := rfl
@[simp] theorem setClaim_busEnd (i : FaceNo) (c : Option Claim) : (s.setClaim i c).busEnd = s.busEnd := rfl
@[simp] theorem setClaim_sensors (i : FaceNo) (c : Option Claim) : (s.setClaim i c).sensors = s.sensors := rfl
@[simp] theorem setClaim_zones (i : FaceNo) (c : Option Claim) : (s.setClaim i c).zones = s.zones := rfl
@[simp] theorem setClaim_seconds (i : FaceNo) (c : Option Claim) : (s.setClaim i c).seconds = s.seconds := rfl
@[simp] theorem setClaim_dayClock (i : FaceNo) (c : Option Claim) : (s.setClaim i c).dayClock = s.dayClock := rfl
@[simp] theorem setClaim_curfewStart (i : FaceNo) (c : Option Claim) : (s.setClaim i c).curfewStart = s.curfewStart := rfl
@[simp] theorem setClaim_curfewEnd (i : FaceNo) (c : Option Claim) : (s.setClaim i c).curfewEnd = s.curfewEnd := rfl
@[simp] theorem setClaim_curves (i : FaceNo) (c : Option Claim) : (s.setClaim i c).curves = s.curves := rfl
@[simp] theorem setClaim_faces (i : FaceNo) (c : Option Claim) : (s.setClaim i c).faces = s.faces := rfl
@[simp] theorem setClaim_claims (i : FaceNo) (c : Option Claim) : (s.setClaim i c).claims = s.claims.set i c := rfl
@[simp] theorem setClaim_period (i : FaceNo) (c : Option Claim) : (s.setClaim i c).period = s.period := rfl
@[simp] theorem setClaim_cycleTimer (i : FaceNo) (c : Option Claim) : (s.setClaim i c).cycleTimer = s.cycleTimer := rfl
@[simp] theorem setClaim_overrunWaiting (i : FaceNo) (c : Option Claim) : (s.setClaim i c).overrunWaiting = s.overrunWaiting := rfl
@[simp] theorem setClaim_cycle (i : FaceNo) (c : Option Claim) : (s.setClaim i c).cycle = s.cycle := rfl
@[simp] theorem setClaim_retries (i : FaceNo) (c : Option Claim) : (s.setClaim i c).retries = s.retries := rfl
@[simp] theorem setClaim_span (i : FaceNo) (c : Option Claim) : (s.setClaim i c).span = s.span := rfl
@[simp] theorem setClaim_proofGen (i : FaceNo) (c : Option Claim) : (s.setClaim i c).proofGen = s.proofGen := rfl
@[simp] theorem setClaim_cycleCount (i : FaceNo) (c : Option Claim) : (s.setClaim i c).cycleCount = s.cycleCount := rfl
@[simp] theorem setClaim_persist (i : FaceNo) (c : Option Claim) : (s.setClaim i c).persist = s.persist := rfl
@[simp] theorem setClaim_retriesSent (i : FaceNo) (c : Option Claim) : (s.setClaim i c).retriesSent = s.retriesSent := rfl
@[simp] theorem setClaim_overruns (i : FaceNo) (c : Option Claim) : (s.setClaim i c).overruns = s.overruns := rfl
@[simp] theorem setClaim_snapRetries (i : FaceNo) (c : Option Claim) : (s.setClaim i c).snapRetries = s.snapRetries := rfl
@[simp] theorem setClaim_snapStamp (i : FaceNo) (c : Option Claim) : (s.setClaim i c).snapStamp = s.snapStamp := rfl
@[simp] theorem setClaim_autosnap (i : FaceNo) (c : Option Claim) : (s.setClaim i c).autosnap = s.autosnap := rfl
@[simp] theorem setClaim_autoCount (i : FaceNo) (c : Option Claim) : (s.setClaim i c).autoCount = s.autoCount := rfl
@[simp] theorem setClaim_queue (i : FaceNo) (c : Option Claim) : (s.setClaim i c).queue = s.queue := rfl
@[simp] theorem setClaim_changeSet (i : FaceNo) (c : Option Claim) : (s.setClaim i c).changeSet = s.changeSet := rfl
@[simp] theorem setClaim_otherLost (i : FaceNo) (c : Option Claim) : (s.setClaim i c).otherLost = s.otherLost := rfl
@[simp] theorem setClaim_holdoff (i : FaceNo) (c : Option Claim) : (s.setClaim i c).holdoff = s.holdoff := rfl
@[simp] theorem setClaim_holdoffCount (i : FaceNo) (c : Option Claim) : (s.setClaim i c).holdoffCount = s.holdoffCount := rfl
@[simp] theorem setClaim_freeChoices (i : FaceNo) (c : Option Claim) : (s.setClaim i c).freeChoices = s.freeChoices := rfl
@[simp] theorem setClaim_pending (i : FaceNo) (c : Option Claim) : (s.setClaim i c).pending = s.pending := rfl
@[simp] theorem setClaim_resetting (i : FaceNo) (c : Option Claim) : (s.setClaim i c).resetting = s.resetting := rfl

/-! ### The two parts of a face record -/

theorem setFaceConfig_eq (i : FaceNo) (c : FaceConfig) : s.setFaceConfig i c = s.setFace i { s.faces.get i with config := c } := rfl
theorem setFaceDyn_eq (i : FaceNo) (d : FaceDynamic) : s.setFaceDyn i d = s.setFace i { s.faces.get i with dyn := d } := rfl

@[simp] theorem setFaceConfig_mode (i : FaceNo) (c : FaceConfig) : (s.setFaceConfig i c).mode = s.mode := rfl
@[simp] theorem setFaceConfig_lastCause (i : FaceNo) (c : FaceConfig) : (s.setFaceConfig i c).lastCause = s.lastCause := rfl
@[simp] theorem setFaceConfig_resetLine (i : FaceNo) (c : FaceConfig) : (s.setFaceConfig i c).resetLine = s.resetLine := rfl
@[simp] theorem setFaceConfig_straps (i : FaceNo) (c : FaceConfig) : (s.setFaceConfig i c).straps = s.straps := rfl
@[simp] theorem setFaceConfig_control (i : FaceNo) (c : FaceConfig) : (s.setFaceConfig i c).control = s.control := rfl
@[simp] theorem setFaceConfig_authority (i : FaceNo) (c : FaceConfig) : (s.setFaceConfig i c).authority = s.authority := rfl
@[simp] theorem setFaceConfig_hazard (i : FaceNo) (c : FaceConfig) : (s.setFaceConfig i c).hazard = s.hazard := rfl
@[simp] theorem setFaceConfig_lapsed (i : FaceNo) (c : FaceConfig) : (s.setFaceConfig i c).lapsed = s.lapsed := rfl
@[simp] theorem setFaceConfig_restarted (i : FaceNo) (c : FaceConfig) : (s.setFaceConfig i c).restarted = s.restarted := rfl
@[simp] theorem setFaceConfig_scanPeriod (i : FaceNo) (c : FaceConfig) : (s.setFaceConfig i c).scanPeriod = s.scanPeriod := rfl
@[simp] theorem setFaceConfig_scanTimer (i : FaceNo) (c : FaceConfig) : (s.setFaceConfig i c).scanTimer = s.scanTimer := rfl
@[simp] theorem setFaceConfig_scan (i : FaceNo) (c : FaceConfig) : (s.setFaceConfig i c).scan = s.scan := rfl
@[simp] theorem setFaceConfig_busEnd (i : FaceNo) (c : FaceConfig) : (s.setFaceConfig i c).busEnd = s.busEnd := rfl
@[simp] theorem setFaceConfig_sensors (i : FaceNo) (c : FaceConfig) : (s.setFaceConfig i c).sensors = s.sensors := rfl
@[simp] theorem setFaceConfig_zones (i : FaceNo) (c : FaceConfig) : (s.setFaceConfig i c).zones = s.zones := rfl
@[simp] theorem setFaceConfig_seconds (i : FaceNo) (c : FaceConfig) : (s.setFaceConfig i c).seconds = s.seconds := rfl
@[simp] theorem setFaceConfig_dayClock (i : FaceNo) (c : FaceConfig) : (s.setFaceConfig i c).dayClock = s.dayClock := rfl
@[simp] theorem setFaceConfig_curfewStart (i : FaceNo) (c : FaceConfig) : (s.setFaceConfig i c).curfewStart = s.curfewStart := rfl
@[simp] theorem setFaceConfig_curfewEnd (i : FaceNo) (c : FaceConfig) : (s.setFaceConfig i c).curfewEnd = s.curfewEnd := rfl
@[simp] theorem setFaceConfig_curves (i : FaceNo) (c : FaceConfig) : (s.setFaceConfig i c).curves = s.curves := rfl
@[simp] theorem setFaceConfig_faces (i : FaceNo) (c : FaceConfig) : (s.setFaceConfig i c).faces = s.faces.set i { s.faces.get i with config := c } := rfl
@[simp] theorem setFaceConfig_claims (i : FaceNo) (c : FaceConfig) : (s.setFaceConfig i c).claims = s.claims := rfl
@[simp] theorem setFaceConfig_period (i : FaceNo) (c : FaceConfig) : (s.setFaceConfig i c).period = s.period := rfl
@[simp] theorem setFaceConfig_cycleTimer (i : FaceNo) (c : FaceConfig) : (s.setFaceConfig i c).cycleTimer = s.cycleTimer := rfl
@[simp] theorem setFaceConfig_overrunWaiting (i : FaceNo) (c : FaceConfig) : (s.setFaceConfig i c).overrunWaiting = s.overrunWaiting := rfl
@[simp] theorem setFaceConfig_cycle (i : FaceNo) (c : FaceConfig) : (s.setFaceConfig i c).cycle = s.cycle := rfl
@[simp] theorem setFaceConfig_retries (i : FaceNo) (c : FaceConfig) : (s.setFaceConfig i c).retries = s.retries := rfl
@[simp] theorem setFaceConfig_span (i : FaceNo) (c : FaceConfig) : (s.setFaceConfig i c).span = s.span := rfl
@[simp] theorem setFaceConfig_proofGen (i : FaceNo) (c : FaceConfig) : (s.setFaceConfig i c).proofGen = s.proofGen := rfl
@[simp] theorem setFaceConfig_cycleCount (i : FaceNo) (c : FaceConfig) : (s.setFaceConfig i c).cycleCount = s.cycleCount := rfl
@[simp] theorem setFaceConfig_persist (i : FaceNo) (c : FaceConfig) : (s.setFaceConfig i c).persist = s.persist := rfl
@[simp] theorem setFaceConfig_retriesSent (i : FaceNo) (c : FaceConfig) : (s.setFaceConfig i c).retriesSent = s.retriesSent := rfl
@[simp] theorem setFaceConfig_overruns (i : FaceNo) (c : FaceConfig) : (s.setFaceConfig i c).overruns = s.overruns := rfl
@[simp] theorem setFaceConfig_snapRetries (i : FaceNo) (c : FaceConfig) : (s.setFaceConfig i c).snapRetries = s.snapRetries := rfl
@[simp] theorem setFaceConfig_snapStamp (i : FaceNo) (c : FaceConfig) : (s.setFaceConfig i c).snapStamp = s.snapStamp := rfl
@[simp] theorem setFaceConfig_autosnap (i : FaceNo) (c : FaceConfig) : (s.setFaceConfig i c).autosnap = s.autosnap := rfl
@[simp] theorem setFaceConfig_autoCount (i : FaceNo) (c : FaceConfig) : (s.setFaceConfig i c).autoCount = s.autoCount := rfl
@[simp] theorem setFaceConfig_queue (i : FaceNo) (c : FaceConfig) : (s.setFaceConfig i c).queue = s.queue := rfl
@[simp] theorem setFaceConfig_changeSet (i : FaceNo) (c : FaceConfig) : (s.setFaceConfig i c).changeSet = s.changeSet := rfl
@[simp] theorem setFaceConfig_otherLost (i : FaceNo) (c : FaceConfig) : (s.setFaceConfig i c).otherLost = s.otherLost := rfl
@[simp] theorem setFaceConfig_holdoff (i : FaceNo) (c : FaceConfig) : (s.setFaceConfig i c).holdoff = s.holdoff := rfl
@[simp] theorem setFaceConfig_holdoffCount (i : FaceNo) (c : FaceConfig) : (s.setFaceConfig i c).holdoffCount = s.holdoffCount := rfl
@[simp] theorem setFaceConfig_freeChoices (i : FaceNo) (c : FaceConfig) : (s.setFaceConfig i c).freeChoices = s.freeChoices := rfl
@[simp] theorem setFaceConfig_pending (i : FaceNo) (c : FaceConfig) : (s.setFaceConfig i c).pending = s.pending := rfl
@[simp] theorem setFaceConfig_resetting (i : FaceNo) (c : FaceConfig) : (s.setFaceConfig i c).resetting = s.resetting := rfl

@[simp] theorem setFaceDyn_mode (i : FaceNo) (d : FaceDynamic) : (s.setFaceDyn i d).mode = s.mode := rfl
@[simp] theorem setFaceDyn_lastCause (i : FaceNo) (d : FaceDynamic) : (s.setFaceDyn i d).lastCause = s.lastCause := rfl
@[simp] theorem setFaceDyn_resetLine (i : FaceNo) (d : FaceDynamic) : (s.setFaceDyn i d).resetLine = s.resetLine := rfl
@[simp] theorem setFaceDyn_straps (i : FaceNo) (d : FaceDynamic) : (s.setFaceDyn i d).straps = s.straps := rfl
@[simp] theorem setFaceDyn_control (i : FaceNo) (d : FaceDynamic) : (s.setFaceDyn i d).control = s.control := rfl
@[simp] theorem setFaceDyn_authority (i : FaceNo) (d : FaceDynamic) : (s.setFaceDyn i d).authority = s.authority := rfl
@[simp] theorem setFaceDyn_hazard (i : FaceNo) (d : FaceDynamic) : (s.setFaceDyn i d).hazard = s.hazard := rfl
@[simp] theorem setFaceDyn_lapsed (i : FaceNo) (d : FaceDynamic) : (s.setFaceDyn i d).lapsed = s.lapsed := rfl
@[simp] theorem setFaceDyn_restarted (i : FaceNo) (d : FaceDynamic) : (s.setFaceDyn i d).restarted = s.restarted := rfl
@[simp] theorem setFaceDyn_scanPeriod (i : FaceNo) (d : FaceDynamic) : (s.setFaceDyn i d).scanPeriod = s.scanPeriod := rfl
@[simp] theorem setFaceDyn_scanTimer (i : FaceNo) (d : FaceDynamic) : (s.setFaceDyn i d).scanTimer = s.scanTimer := rfl
@[simp] theorem setFaceDyn_scan (i : FaceNo) (d : FaceDynamic) : (s.setFaceDyn i d).scan = s.scan := rfl
@[simp] theorem setFaceDyn_busEnd (i : FaceNo) (d : FaceDynamic) : (s.setFaceDyn i d).busEnd = s.busEnd := rfl
@[simp] theorem setFaceDyn_sensors (i : FaceNo) (d : FaceDynamic) : (s.setFaceDyn i d).sensors = s.sensors := rfl
@[simp] theorem setFaceDyn_zones (i : FaceNo) (d : FaceDynamic) : (s.setFaceDyn i d).zones = s.zones := rfl
@[simp] theorem setFaceDyn_seconds (i : FaceNo) (d : FaceDynamic) : (s.setFaceDyn i d).seconds = s.seconds := rfl
@[simp] theorem setFaceDyn_dayClock (i : FaceNo) (d : FaceDynamic) : (s.setFaceDyn i d).dayClock = s.dayClock := rfl
@[simp] theorem setFaceDyn_curfewStart (i : FaceNo) (d : FaceDynamic) : (s.setFaceDyn i d).curfewStart = s.curfewStart := rfl
@[simp] theorem setFaceDyn_curfewEnd (i : FaceNo) (d : FaceDynamic) : (s.setFaceDyn i d).curfewEnd = s.curfewEnd := rfl
@[simp] theorem setFaceDyn_curves (i : FaceNo) (d : FaceDynamic) : (s.setFaceDyn i d).curves = s.curves := rfl
@[simp] theorem setFaceDyn_faces (i : FaceNo) (d : FaceDynamic) : (s.setFaceDyn i d).faces = s.faces.set i { s.faces.get i with dyn := d } := rfl
@[simp] theorem setFaceDyn_claims (i : FaceNo) (d : FaceDynamic) : (s.setFaceDyn i d).claims = s.claims := rfl
@[simp] theorem setFaceDyn_period (i : FaceNo) (d : FaceDynamic) : (s.setFaceDyn i d).period = s.period := rfl
@[simp] theorem setFaceDyn_cycleTimer (i : FaceNo) (d : FaceDynamic) : (s.setFaceDyn i d).cycleTimer = s.cycleTimer := rfl
@[simp] theorem setFaceDyn_overrunWaiting (i : FaceNo) (d : FaceDynamic) : (s.setFaceDyn i d).overrunWaiting = s.overrunWaiting := rfl
@[simp] theorem setFaceDyn_cycle (i : FaceNo) (d : FaceDynamic) : (s.setFaceDyn i d).cycle = s.cycle := rfl
@[simp] theorem setFaceDyn_retries (i : FaceNo) (d : FaceDynamic) : (s.setFaceDyn i d).retries = s.retries := rfl
@[simp] theorem setFaceDyn_span (i : FaceNo) (d : FaceDynamic) : (s.setFaceDyn i d).span = s.span := rfl
@[simp] theorem setFaceDyn_proofGen (i : FaceNo) (d : FaceDynamic) : (s.setFaceDyn i d).proofGen = s.proofGen := rfl
@[simp] theorem setFaceDyn_cycleCount (i : FaceNo) (d : FaceDynamic) : (s.setFaceDyn i d).cycleCount = s.cycleCount := rfl
@[simp] theorem setFaceDyn_persist (i : FaceNo) (d : FaceDynamic) : (s.setFaceDyn i d).persist = s.persist := rfl
@[simp] theorem setFaceDyn_retriesSent (i : FaceNo) (d : FaceDynamic) : (s.setFaceDyn i d).retriesSent = s.retriesSent := rfl
@[simp] theorem setFaceDyn_overruns (i : FaceNo) (d : FaceDynamic) : (s.setFaceDyn i d).overruns = s.overruns := rfl
@[simp] theorem setFaceDyn_snapRetries (i : FaceNo) (d : FaceDynamic) : (s.setFaceDyn i d).snapRetries = s.snapRetries := rfl
@[simp] theorem setFaceDyn_snapStamp (i : FaceNo) (d : FaceDynamic) : (s.setFaceDyn i d).snapStamp = s.snapStamp := rfl
@[simp] theorem setFaceDyn_autosnap (i : FaceNo) (d : FaceDynamic) : (s.setFaceDyn i d).autosnap = s.autosnap := rfl
@[simp] theorem setFaceDyn_autoCount (i : FaceNo) (d : FaceDynamic) : (s.setFaceDyn i d).autoCount = s.autoCount := rfl
@[simp] theorem setFaceDyn_queue (i : FaceNo) (d : FaceDynamic) : (s.setFaceDyn i d).queue = s.queue := rfl
@[simp] theorem setFaceDyn_changeSet (i : FaceNo) (d : FaceDynamic) : (s.setFaceDyn i d).changeSet = s.changeSet := rfl
@[simp] theorem setFaceDyn_otherLost (i : FaceNo) (d : FaceDynamic) : (s.setFaceDyn i d).otherLost = s.otherLost := rfl
@[simp] theorem setFaceDyn_holdoff (i : FaceNo) (d : FaceDynamic) : (s.setFaceDyn i d).holdoff = s.holdoff := rfl
@[simp] theorem setFaceDyn_holdoffCount (i : FaceNo) (d : FaceDynamic) : (s.setFaceDyn i d).holdoffCount = s.holdoffCount := rfl
@[simp] theorem setFaceDyn_freeChoices (i : FaceNo) (d : FaceDynamic) : (s.setFaceDyn i d).freeChoices = s.freeChoices := rfl
@[simp] theorem setFaceDyn_pending (i : FaceNo) (d : FaceDynamic) : (s.setFaceDyn i d).pending = s.pending := rfl
@[simp] theorem setFaceDyn_resetting (i : FaceNo) (d : FaceDynamic) : (s.setFaceDyn i d).resetting = s.resetting := rfl

/-! ### Posting a notice -/

/-- All that a notice posted can do: change the queue, the face change set and the other-lost flag. -/
theorem post_footprint (b : NoticeBody) :
    ∃ q c o, s.post b = { s with queue := q, changeSet := c, otherLost := o } := by
  unfold State.post
  split
  · exact ⟨_, _, _, rfl⟩
  · split
    · exact ⟨_, _, _, rfl⟩
    · split
      · exact ⟨_, _, _, rfl⟩
      · exact ⟨_, _, _, rfl⟩

@[simp] theorem post_mode (b : NoticeBody) : (s.post b).mode = s.mode := by
  obtain ⟨q, c, o, h⟩ := post_footprint s b; rw [h]
@[simp] theorem post_lastCause (b : NoticeBody) : (s.post b).lastCause = s.lastCause := by
  obtain ⟨q, c, o, h⟩ := post_footprint s b; rw [h]
@[simp] theorem post_resetLine (b : NoticeBody) : (s.post b).resetLine = s.resetLine := by
  obtain ⟨q, c, o, h⟩ := post_footprint s b; rw [h]
@[simp] theorem post_straps (b : NoticeBody) : (s.post b).straps = s.straps := by
  obtain ⟨q, c, o, h⟩ := post_footprint s b; rw [h]
@[simp] theorem post_control (b : NoticeBody) : (s.post b).control = s.control := by
  obtain ⟨q, c, o, h⟩ := post_footprint s b; rw [h]
@[simp] theorem post_authority (b : NoticeBody) : (s.post b).authority = s.authority := by
  obtain ⟨q, c, o, h⟩ := post_footprint s b; rw [h]
@[simp] theorem post_hazard (b : NoticeBody) : (s.post b).hazard = s.hazard := by
  obtain ⟨q, c, o, h⟩ := post_footprint s b; rw [h]
@[simp] theorem post_lapsed (b : NoticeBody) : (s.post b).lapsed = s.lapsed := by
  obtain ⟨q, c, o, h⟩ := post_footprint s b; rw [h]
@[simp] theorem post_restarted (b : NoticeBody) : (s.post b).restarted = s.restarted := by
  obtain ⟨q, c, o, h⟩ := post_footprint s b; rw [h]
@[simp] theorem post_scanPeriod (b : NoticeBody) : (s.post b).scanPeriod = s.scanPeriod := by
  obtain ⟨q, c, o, h⟩ := post_footprint s b; rw [h]
@[simp] theorem post_scanTimer (b : NoticeBody) : (s.post b).scanTimer = s.scanTimer := by
  obtain ⟨q, c, o, h⟩ := post_footprint s b; rw [h]
@[simp] theorem post_scan (b : NoticeBody) : (s.post b).scan = s.scan := by
  obtain ⟨q, c, o, h⟩ := post_footprint s b; rw [h]
@[simp] theorem post_busEnd (b : NoticeBody) : (s.post b).busEnd = s.busEnd := by
  obtain ⟨q, c, o, h⟩ := post_footprint s b; rw [h]
@[simp] theorem post_sensors (b : NoticeBody) : (s.post b).sensors = s.sensors := by
  obtain ⟨q, c, o, h⟩ := post_footprint s b; rw [h]
@[simp] theorem post_zones (b : NoticeBody) : (s.post b).zones = s.zones := by
  obtain ⟨q, c, o, h⟩ := post_footprint s b; rw [h]
@[simp] theorem post_seconds (b : NoticeBody) : (s.post b).seconds = s.seconds := by
  obtain ⟨q, c, o, h⟩ := post_footprint s b; rw [h]
@[simp] theorem post_dayClock (b : NoticeBody) : (s.post b).dayClock = s.dayClock := by
  obtain ⟨q, c, o, h⟩ := post_footprint s b; rw [h]
@[simp] theorem post_curfewStart (b : NoticeBody) : (s.post b).curfewStart = s.curfewStart := by
  obtain ⟨q, c, o, h⟩ := post_footprint s b; rw [h]
@[simp] theorem post_curfewEnd (b : NoticeBody) : (s.post b).curfewEnd = s.curfewEnd := by
  obtain ⟨q, c, o, h⟩ := post_footprint s b; rw [h]
@[simp] theorem post_curves (b : NoticeBody) : (s.post b).curves = s.curves := by
  obtain ⟨q, c, o, h⟩ := post_footprint s b; rw [h]
@[simp] theorem post_faces (b : NoticeBody) : (s.post b).faces = s.faces := by
  obtain ⟨q, c, o, h⟩ := post_footprint s b; rw [h]
@[simp] theorem post_claims (b : NoticeBody) : (s.post b).claims = s.claims := by
  obtain ⟨q, c, o, h⟩ := post_footprint s b; rw [h]
@[simp] theorem post_period (b : NoticeBody) : (s.post b).period = s.period := by
  obtain ⟨q, c, o, h⟩ := post_footprint s b; rw [h]
@[simp] theorem post_cycleTimer (b : NoticeBody) : (s.post b).cycleTimer = s.cycleTimer := by
  obtain ⟨q, c, o, h⟩ := post_footprint s b; rw [h]
@[simp] theorem post_overrunWaiting (b : NoticeBody) : (s.post b).overrunWaiting = s.overrunWaiting := by
  obtain ⟨q, c, o, h⟩ := post_footprint s b; rw [h]
@[simp] theorem post_cycle (b : NoticeBody) : (s.post b).cycle = s.cycle := by
  obtain ⟨q, c, o, h⟩ := post_footprint s b; rw [h]
@[simp] theorem post_retries (b : NoticeBody) : (s.post b).retries = s.retries := by
  obtain ⟨q, c, o, h⟩ := post_footprint s b; rw [h]
@[simp] theorem post_span (b : NoticeBody) : (s.post b).span = s.span := by
  obtain ⟨q, c, o, h⟩ := post_footprint s b; rw [h]
@[simp] theorem post_proofGen (b : NoticeBody) : (s.post b).proofGen = s.proofGen := by
  obtain ⟨q, c, o, h⟩ := post_footprint s b; rw [h]
@[simp] theorem post_cycleCount (b : NoticeBody) : (s.post b).cycleCount = s.cycleCount := by
  obtain ⟨q, c, o, h⟩ := post_footprint s b; rw [h]
@[simp] theorem post_persist (b : NoticeBody) : (s.post b).persist = s.persist := by
  obtain ⟨q, c, o, h⟩ := post_footprint s b; rw [h]
@[simp] theorem post_retriesSent (b : NoticeBody) : (s.post b).retriesSent = s.retriesSent := by
  obtain ⟨q, c, o, h⟩ := post_footprint s b; rw [h]
@[simp] theorem post_overruns (b : NoticeBody) : (s.post b).overruns = s.overruns := by
  obtain ⟨q, c, o, h⟩ := post_footprint s b; rw [h]
@[simp] theorem post_snapRetries (b : NoticeBody) : (s.post b).snapRetries = s.snapRetries := by
  obtain ⟨q, c, o, h⟩ := post_footprint s b; rw [h]
@[simp] theorem post_snapStamp (b : NoticeBody) : (s.post b).snapStamp = s.snapStamp := by
  obtain ⟨q, c, o, h⟩ := post_footprint s b; rw [h]
@[simp] theorem post_autosnap (b : NoticeBody) : (s.post b).autosnap = s.autosnap := by
  obtain ⟨q, c, o, h⟩ := post_footprint s b; rw [h]
@[simp] theorem post_autoCount (b : NoticeBody) : (s.post b).autoCount = s.autoCount := by
  obtain ⟨q, c, o, h⟩ := post_footprint s b; rw [h]
@[simp] theorem post_holdoff (b : NoticeBody) : (s.post b).holdoff = s.holdoff := by
  obtain ⟨q, c, o, h⟩ := post_footprint s b; rw [h]
@[simp] theorem post_holdoffCount (b : NoticeBody) : (s.post b).holdoffCount = s.holdoffCount := by
  obtain ⟨q, c, o, h⟩ := post_footprint s b; rw [h]
@[simp] theorem post_freeChoices (b : NoticeBody) : (s.post b).freeChoices = s.freeChoices := by
  obtain ⟨q, c, o, h⟩ := post_footprint s b; rw [h]
@[simp] theorem post_pending (b : NoticeBody) : (s.post b).pending = s.pending := by
  obtain ⟨q, c, o, h⟩ := post_footprint s b; rw [h]
@[simp] theorem post_resetting (b : NoticeBody) : (s.post b).resetting = s.resetting := by simp [State.resetting]

end Sys2Proof.Machine
end

