-- ==== Sys2Proof/Laws/Ops.lean ====
section
/-! SUPPORT. Laws/Ops.lean: what the shared operations can do: changes made face by face, the taking of a request, and for each
operation of the chain, the sensors and the notices its footprint, the fields that it can change at all. -/

namespace Sys2Proof.Machine

/-! ### Changes made face by face -/

theorem allFaces_mem (i : FaceNo) : i ∈ allFaces := List.mem_finRange i
theorem allFaces_nodup : allFaces.Nodup := List.nodup_finRange 32

/-- What every single change keeps, the whole keeps. -/
theorem eachFace_keeps {P : State → Prop} {f : FaceNo → State → State} (h : ∀ i t, P t → P (f i t)) (s : State) (hs : P s) :
    P (s.eachFace f) := by
  have key : ∀ (l : List FaceNo) (t : State), P t → P (l.foldl (fun t i => f i t) t) := by
    intro l
    induction l with
    | nil => intro t ht; exact ht
    | cons a l ih => intro t ht; exact ih _ (h a t ht)
  exact key _ _ hs

/-- What no single change touches, the whole does not touch. -/
theorem eachFace_frame {α : Type} (p : State → α) {f : FaceNo → State → State} (h : ∀ i t, p (f i t) = p t) (s : State) :
    p (s.eachFace f) = p s :=
  eachFace_keeps (P := fun t => p t = p s) (fun i t ht => (h i t).trans ht) s rfl

/-- A change that touches each face's own record once, by a rule that looks at that record only. -/
theorem eachFace_read {α : Type} (read : State → FaceNo → α) (g : FaceNo → α → α) {f : FaceNo → State → State}
    (hself : ∀ i t, read (f i t) i = g i (read t i)) (hother : ∀ i j t, j ≠ i → read (f i t) j = read t j)
    (s : State) (j : FaceNo) : read (s.eachFace f) j = g j (read s j) := by
  have key : ∀ (l : List FaceNo) (t : State), l.Nodup →
      read (l.foldl (fun t i => f i t) t) j = if j ∈ l then g j (read t j) else read t j := by
    intro l
    induction l with
    | nil => intro t _; simp
    | cons a l ih =>
      intro t hn
      rw [List.foldl_cons, ih _ (List.nodup_cons.mp hn).2]
      have ha := (List.nodup_cons.mp hn).1
      by_cases hj : j = a
      · subst hj; simp [ha, hself]
      · simp [hj, hother a j t hj]
  have := key allFaces s allFaces_nodup
  simpa [State.eachFace, allFaces_mem j] using this

/-! ### Taking a request (R163, R168, R169) -/

theorem takeRequest_resetting {s : State} (h : s.resetting = true) (l : Link) (k t : Byte) (j : State → Answer × State) :
    s.takeRequest l k t j = s := by simp [State.takeRequest, h]

theorem takeRequest_busy {s : State} {l : Link} (h : s.resetting = false) (hp : (s.port l).reply.isSome = true) (k t : Byte)
    (j : State → Answer × State) : s.takeRequest l k t j = s.discardFrame l := by simp [State.takeRequest, h, hp]

theorem takeRequest_taken {s : State} {l : Link} (h : s.resetting = false) (hp : (s.port l).reply = none) (k t : Byte)
    (j : State → Answer × State) :
    s.takeRequest l k t j = (j s).2.setPort l { (j s).2.port l with reply := some ⟨k, t, (j s).1⟩ } := by
  simp [State.takeRequest, h, hp]

/-- The three things a request frame can do. -/
theorem takeRequest_cases (s : State) (l : Link) (k t : Byte) (j : State → Answer × State) :
    s.takeRequest l k t j = s ∧ s.resetting = true ∨
      s.takeRequest l k t j = s.discardFrame l ∧ s.resetting = false ∨
        s.takeRequest l k t j = (j s).2.setPort l { (j s).2.port l with reply := some ⟨k, t, (j s).1⟩ } ∧ s.resetting = false ∧
          (s.port l).reply = none := by
  by_cases h : s.resetting = true
  · exact .inl ⟨takeRequest_resetting h l k t j, h⟩
  · have h' : s.resetting = false := by simpa using h
    by_cases hp : (s.port l).reply.isSome = true
    · exact .inr (.inl ⟨takeRequest_busy h' hp k t j, h'⟩)
    · have hp' : (s.port l).reply = none := by simpa using hp
      exact .inr (.inr ⟨takeRequest_taken h' hp' k t j, h', hp'⟩)

/-! ### Sensor readings (R29) -/

/-- R29: a reading is at most 100,000 lux. -/
theorem luxOf_le (high middle low : Byte) : luxOf high middle low ≤ 100000 := Nat.min_le_right _ _

/-! ### Footprints -/

/-- `t` is `s` but for the notices. -/
abbrev OnlyNotices (s t : State) : Prop := ∃ q c o, t = { s with queue := q, changeSet := c, otherLost := o }

/-- `t` is `s` but for the face records and the notices. -/
abbrev OnlyFaces (s t : State) : Prop :=
  ∃ f q c o, t = { s with faces := f, queue := q, changeSet := c, otherLost := o }

/-- `t` is `s` but for the face records, the hazard set and the notices. -/
abbrev OnlyHazard (s t : State) : Prop :=
  ∃ f h q c o, t = { s with faces := f, hazard := h, queue := q, changeSet := c, otherLost := o }

/-- `t` is `s` but for the sensor and zone records, the scan, the signals that ended the latest read, and the notices. -/
abbrev OnlyScan (s t : State) : Prop :=
  ∃ x z n b q c o, t = { s with sensors := x, zones := z, scan := n, busEnd := b, queue := q, changeSet := c, otherLost := o }

/-- `t` is `s` but for what the Chain Controller's events can change. -/
abbrev OnlyChain (s t : State) : Prop :=
  ∃ m h u f ti w y g n r q c o,
    t = { s with
      mode := m, hazard := h, curves := u, faces := f, cycleTimer := ti, overrunWaiting := w, cycle := y, proofGen := g,
      cycleCount := n, retriesSent := r, queue := q, changeSet := c, otherLost := o }

theorem OnlyNotices.refl (s : State) : OnlyNotices s s := ⟨_, _, _, rfl⟩
theorem OnlyFaces.refl (s : State) : OnlyFaces s s := ⟨_, _, _, _, rfl⟩
theorem OnlyHazard.refl (s : State) : OnlyHazard s s := ⟨_, _, _, _, _, rfl⟩
theorem OnlyScan.refl (s : State) : OnlyScan s s := ⟨_, _, _, _, _, _, _, rfl⟩
theorem OnlyChain.refl (s : State) : OnlyChain s s := ⟨_, _, _, _, _, _, _, _, _, _, _, _, _, rfl⟩

theorem OnlyFaces.trans {s t u : State} : OnlyFaces s t → OnlyFaces t u → OnlyFaces s u := by
  rintro ⟨_, _, _, _, rfl⟩ ⟨_, _, _, _, rfl⟩; exact ⟨_, _, _, _, rfl⟩
theorem OnlyHazard.trans {s t u : State} : OnlyHazard s t → OnlyHazard t u → OnlyHazard s u := by
  rintro ⟨_, _, _, _, _, rfl⟩ ⟨_, _, _, _, _, rfl⟩; exact ⟨_, _, _, _, _, rfl⟩
theorem OnlyScan.trans {s t u : State} : OnlyScan s t → OnlyScan t u → OnlyScan s u := by
  rintro ⟨_, _, _, _, _, _, _, rfl⟩ ⟨_, _, _, _, _, _, _, rfl⟩; exact ⟨_, _, _, _, _, _, _, rfl⟩
theorem OnlyChain.trans {s t u : State} : OnlyChain s t → OnlyChain t u → OnlyChain s u := by
  rintro ⟨_, _, _, _, _, _, _, _, _, _, _, _, _, rfl⟩ ⟨_, _, _, _, _, _, _, _, _, _, _, _, _, rfl⟩
  exact ⟨_, _, _, _, _, _, _, _, _, _, _, _, _, rfl⟩

theorem OnlyNotices.faces {s t : State} : OnlyNotices s t → OnlyFaces s t := by
  rintro ⟨_, _, _, rfl⟩; exact ⟨_, _, _, _, rfl⟩
theorem OnlyNotices.scan {s t : State} : OnlyNotices s t → OnlyScan s t := by
  rintro ⟨_, _, _, rfl⟩; exact ⟨_, _, _, _, _, _, _, rfl⟩
theorem OnlyFaces.hazard {s t : State} : OnlyFaces s t → OnlyHazard s t := by
  rintro ⟨_, _, _, _, rfl⟩; exact ⟨_, _, _, _, _, rfl⟩
theorem OnlyHazard.chain {s t : State} : OnlyHazard s t → OnlyChain s t := by
  rintro ⟨_, _, _, _, _, rfl⟩; exact ⟨_, _, _, _, _, _, _, _, _, _, _, _, _, rfl⟩

theorem post_only (s : State) (b : NoticeBody) : OnlyNotices s (s.post b) := post_footprint s b

theorem setFaceDyn_only (s : State) (i : FaceNo) (d : FaceDynamic) : OnlyFaces s (s.setFaceDyn i d) := ⟨_, _, _, _, rfl⟩

theorem goOffline_only (s : State) (i : FaceNo) : OnlyFaces s (s.goOffline i) := ⟨_, _, _, _, rfl⟩

theorem enterCutoff_only (s : State) (i : FaceNo) : OnlyHazard s (s.enterCutoff i) := by
  unfold State.enterCutoff
  obtain ⟨q, c, o, h⟩ := post_footprint
    { s.setFaceDyn i { (s.faces.get i).dyn with
        state := .cutoff, live := { (s.faces.get i).dyn.live with cutoffs := bump 255 (s.faces.get i).dyn.live.cutoffs } } with
      hazard := faceInsert s.hazard i } (.faceState i .cutoff false)
  exact ⟨_, _, _, _, _, h⟩

theorem leaveHold_only (s : State) : OnlyHazard s s.leaveHold := by
  refine eachFace_keeps (P := OnlyHazard s) (fun i t ht => ht.trans ?_) s (OnlyHazard.refl s)
  unfold State.leaveHoldFace
  dsimp only
  split
  · exact (setFaceDyn_only _ _ _).hazard.trans (enterCutoff_only _ _)
  · exact OnlyHazard.refl _

theorem latchFace_only (s : State) (i : FaceNo) : OnlyFaces s (State.latchFace i s) := by
  unfold State.latchFace
  dsimp only
  split
  · split
    · split
      · exact (setFaceDyn_only _ _ _).trans (post_only _ _).faces
      · exact OnlyFaces.refl _
    · split
      · exact OnlyFaces.refl _
      · exact goOffline_only _ _
  · exact OnlyFaces.refl _

theorem latchEnables_only (s : State) : OnlyFaces s s.latchEnables :=
  eachFace_keeps (P := OnlyFaces s) (fun i t ht => ht.trans (latchFace_only t i)) s (OnlyFaces.refl s)

/-- A slot start changes the face record and the proof generator only. -/
theorem openSlot_only (s : State) (i : FaceNo) : ∃ f g, (s.openSlot i).1 = { s with faces := f, proofGen := g } := by
  unfold State.openSlot State.levelSlot State.darken State.runEngine State.setFaceDyn State.setFace
  split
  · exact ⟨_, _, rfl⟩
  · exact ⟨_, _, rfl⟩
  · dsimp only; split <;> exact ⟨_, _, rfl⟩
  · dsimp only; split <;> exact ⟨_, _, rfl⟩

/-- What every slot begins with. -/
theorem openSlot_slot (s : State) (i : FaceNo) :
    (s.openSlot i).2.face = i ∧ (s.openSlot i).2.permitted = 1 + s.retries ∧ (s.openSlot i).2.outcomes = [] ∧
      (s.openSlot i).2.attempt = .sending := by
  unfold State.openSlot State.levelSlot State.darken State.runEngine State.setFaceDyn State.setFace State.newSlot
  split
  · exact ⟨rfl, rfl, rfl, rfl⟩
  · exact ⟨rfl, rfl, rfl, rfl⟩
  · dsimp only; split <;> exact ⟨rfl, rfl, rfl, rfl⟩
  · dsimp only; split <;> exact ⟨rfl, rfl, rfl, rfl⟩

/-- A slot start: the cycle it leaves, and its footprint. -/
theorem slotStart_spec (s : State) (served : List FaceNo) (i : FaceNo) (todo : List FaceNo) :
    ∃ f g, s.slotStart served i todo = { s with faces := f, proofGen := g, cycle := some ⟨served, (s.openSlot i).2, todo⟩ } := by
  obtain ⟨f, g, h⟩ := openSlot_only s i
  refine ⟨f, g, ?_⟩
  unfold State.slotStart
  dsimp only
  rw [h]

theorem changeMode_only (s : State) (m : Mode) : OnlyNotices { s with mode := m } (s.changeMode m) := post_only _ _

/-- The completion of a halt: the mode, the timer and the waiting mark; the rest is notices. -/
theorem completeHalt_spec (s : State) :
    OnlyNotices { s with overrunWaiting := false, cycleTimer := none, mode := .halted } s.completeHalt :=
  changeMode_only { s with overrunWaiting := false, cycleTimer := none } .halted

/-- R2, steps 1 to 4: what a cycle start's latches can change. -/
theorem latchCycle_spec (s : State) :
    ∃ f q c o, s.latchCycle = { s with
      cycleTimer := some s.period, cycleCount := s.cycleCount + 1#32, curves := s.curves.map Curve.latch, faces := f, queue := q,
      changeSet := c, otherLost := o } :=
  latchEnables_only _

/-- A cycle start in a mode other than HALTING: the first slot's cycle, or none. -/
theorem cycleStart_spec (s : State) (h : s.mode ≠ .halting) :
    ∃ f g q c o y, s.cycleStart = { s with
        cycleTimer := some s.period, cycleCount := s.cycleCount + 1#32, curves := s.curves.map Curve.latch, faces := f,
        proofGen := g, queue := q, changeSet := c, otherLost := o, cycle := y } ∧
      (y = none ∧ s.latchCycle.slotList = [] ∨
        ∃ i todo, s.latchCycle.slotList = i :: todo ∧ y = some ⟨[], (s.latchCycle.openSlot i).2, todo⟩) := by
  obtain ⟨f, q, c, o, hl⟩ := latchCycle_spec s
  unfold State.cycleStart State.beginCycle
  have hm : s.latchCycle.mode ≠ .halting := by rw [hl]; exact h
  cases hs : s.latchCycle.slotList with
  | nil =>
    refine ⟨f, s.proofGen, q, c, o, none, ?_, .inl ⟨rfl, rfl⟩⟩
    show (if s.latchCycle.mode = .halting then _ else _) = _
    rw [if_neg hm, hl]
  | cons i todo =>
    obtain ⟨f', g', hst⟩ := slotStart_spec s.latchCycle [] i todo
    refine ⟨f', g', q, c, o, _, ?_, .inr ⟨i, todo, rfl, rfl⟩⟩
    show s.latchCycle.slotStart [] i todo = _
    rw [hst, hl]

theorem beginCycle_only (s : State) : OnlyChain s s.beginCycle := by
  unfold State.beginCycle
  split
  · split
    · obtain ⟨q, c, o, h⟩ := completeHalt_spec { s with cycle := none }
      rw [h]; exact ⟨_, _, _, _, _, _, _, _, _, _, _, _, _, rfl⟩
    · exact ⟨_, _, _, _, _, _, _, _, _, _, _, _, _, rfl⟩
  · rename_i i todo _
    obtain ⟨f, g, h⟩ := slotStart_spec s [] i todo
    rw [h]; exact ⟨_, _, _, _, _, _, _, _, _, _, _, _, _, rfl⟩

theorem cycleStart_only (s : State) : OnlyChain s s.cycleStart := by
  refine OnlyChain.trans ?_ (beginCycle_only _)
  obtain ⟨f, q, c, o, h⟩ := latchCycle_spec s
  rw [h]; exact ⟨_, _, _, _, _, _, _, _, _, _, _, _, _, rfl⟩

theorem cycleEnd_only (s : State) : OnlyChain s s.cycleEnd := by
  have h0 : OnlyChain s { s with cycle := none, overrunWaiting := false } :=
    ⟨_, _, _, _, _, _, _, _, _, _, _, _, _, rfl⟩
  unfold State.cycleEnd
  dsimp only
  split
  · obtain ⟨q, c, o, h⟩ := completeHalt_spec { s with cycle := none, overrunWaiting := false }
    rw [h]; exact ⟨_, _, _, _, _, _, _, _, _, _, _, _, _, rfl⟩
  · split
    · exact h0.trans (cycleStart_only _)
    · exact h0

theorem nextSlot_only (s : State) (c : Cycle) : OnlyChain s (s.nextSlot c) := by
  unfold State.nextSlot
  split
  · exact cycleEnd_only s
  · obtain ⟨f, g, h⟩ := slotStart_spec s (c.served ++ [c.slot.face]) _ _
    rw [h]; exact ⟨_, _, _, _, _, _, _, _, _, _, _, _, _, rfl⟩

/-- The Fault Monitor changes face records, the hazard set and the notices only. -/
theorem faultMonitor_only (s : State) (r : SlotReport) : OnlyHazard s (s.faultMonitor r) := by
  have hcut : ∀ t : State, OnlyHazard t (t.cutoffTest r.face) := by
    intro t; unfold State.cutoffTest; dsimp only; split
    · exact enterCutoff_only _ _
    · exact OnlyHazard.refl _
  unfold State.faultMonitor State.reportFaults
  dsimp only
  refine OnlyHazard.trans ?_ (hcut _)
  refine OnlyHazard.trans (setFaceDyn_only s r.face (s.monitored r).1).hazard ?_
  split <;> split <;>
    first
    | exact OnlyHazard.refl _
    | exact (post_only _ _).faces.hazard
    | exact (post_only _ _).faces.hazard.trans (post_only _ _).faces.hazard

theorem slotEnd_only (s : State) (c : Cycle) (reply : Option FaceReply) : OnlyChain s (s.slotEnd c reply) := by
  unfold State.slotEnd
  dsimp only
  refine OnlyChain.trans ?_ (nextSlot_only _ c)
  refine OnlyChain.trans ?_ (faultMonitor_only _ _).chain
  split
  · exact (setFaceDyn_only _ _ _).hazard.chain
  · exact OnlyChain.refl _

theorem attemptFailed_only (s : State) (c : Cycle) (o : AttemptOutcome) : OnlyChain s (s.attemptFailed c o) := by
  have h0 : OnlyChain s (if o = .corrupt then s.countCorrupt c.slot.face else s) := by
    split
    · exact (setFaceDyn_only _ _ _).hazard.chain
    · exact OnlyChain.refl _
  unfold State.attemptFailed
  dsimp only
  split
  · refine h0.trans ?_; exact ⟨_, _, _, _, _, _, _, _, _, _, _, _, _, rfl⟩
  · exact h0.trans (slotEnd_only _ _ _)

theorem changeSensor_only (s : State) (n : SensorNo) (x : Sensor) : OnlyScan s (s.changeSensor n x) := by
  have h0 : OnlyScan s (s.setSensor n x) := ⟨_, _, _, _, _, _, _, rfl⟩
  unfold State.changeSensor
  dsimp only
  split
  · exact h0
  · exact h0.trans (post_only _ _).scan

theorem updateZone_only (s : State) (naming : Table Naming 8) (n : ZoneNo) : OnlyScan s (s.updateZone naming n) := by
  have h0 : ∀ z, OnlyScan s (s.setZone n z) := fun z => ⟨_, _, _, _, _, _, _, rfl⟩
  unfold State.updateZone
  dsimp only
  split
  · exact h0 _
  · exact (h0 _).trans (post_only _ _).scan

/-- What every change of a list of changes keeps, the whole keeps. -/
theorem foldl_keeps {α : Type} {P : State → Prop} {f : State → α → State} (h : ∀ a t, P t → P (f t a)) :
    ∀ (l : List α) (s : State), P s → P (l.foldl f s)
  | [], _, hs => hs
  | a :: l, s, hs => foldl_keeps h l (f s a) (h a s hs)

theorem completeScan_only (s : State) (naming : Table Naming 8) : OnlyScan s (s.completeScan naming) := by
  refine foldl_keeps (P := OnlyScan s) (fun n t ht => ht.trans (updateZone_only t naming n)) allZones _ ?_
  exact ⟨_, _, _, _, _, _, _, rfl⟩

theorem pollFrom_only (s : State) (naming : Table Naming 8) (l : List SensorNo) : OnlyScan s (s.pollFrom naming l) := by
  cases l with
  | nil => exact completeScan_only s naming
  | cons n todo => exact ⟨_, _, _, _, _, _, _, rfl⟩

theorem nameSensor_only (s : State) (naming : Table Naming 8) (n : SensorNo) : OnlyScan s (s.nameSensor naming n) := by
  unfold State.nameSensor
  split
  · split
    · exact changeSensor_only _ _ _
    · exact OnlyScan.refl _
  · split
    · exact OnlyScan.refl _
    · exact changeSensor_only _ _ _

theorem startScan_only (s : State) : OnlyScan s s.startScan :=
  (foldl_keeps (P := OnlyScan s) (fun n t ht => ht.trans (nameSensor_only t _ n)) allSensors s (OnlyScan.refl s)).trans
    (pollFrom_only _ _ _)

theorem endPoll_only (s : State) (c : Scan) (signals : List BusSignal) (reading : Option Nat) :
    OnlyScan s (s.endPoll c signals reading) :=
  (show OnlyScan s { s with busEnd := signals } from ⟨_, _, _, _, _, _, _, rfl⟩).trans
    ((changeSensor_only _ _ _).trans (pollFrom_only _ _ _))

theorem changeSensor_busEnd (s : State) (n : SensorNo) (x : Sensor) : (s.changeSensor n x).busEnd = s.busEnd := by
  unfold State.changeSensor; dsimp only; split <;> simp

theorem updateZone_busEnd (s : State) (naming : Table Naming 8) (n : ZoneNo) : (s.updateZone naming n).busEnd = s.busEnd := by
  unfold State.updateZone; dsimp only; split <;> simp

theorem completeScan_busEnd (s : State) (naming : Table Naming 8) : (s.completeScan naming).busEnd = s.busEnd := by
  unfold State.completeScan
  exact foldl_keeps (P := fun t => t.busEnd = s.busEnd) (fun n t ht => by rw [updateZone_busEnd, ht]) allZones { s with scan := none } rfl

theorem pollFrom_busEnd (s : State) (naming : Table Naming 8) (l : List SensorNo) : (s.pollFrom naming l).busEnd = s.busEnd := by
  cases l with
  | nil => exact completeScan_busEnd s naming
  | cons n todo => rfl

/-- R29: the scan goes on, or completes, without another signal: what ended the read is what the part sent last. -/
theorem endPoll_busEnd (s : State) (c : Scan) (signals : List BusSignal) (reading : Option Nat) :
    (s.endPoll c signals reading).busEnd = signals := by
  unfold State.endPoll; dsimp only; rw [pollFrom_busEnd, changeSensor_busEnd]

end Sys2Proof.Machine
end

