-- ==== Sys2Proof/Laws/Effects.lean ====
section
/-! SUPPORT. Laws/Effects.lean: everything a request can do to the state, said once, and what a property must survive to be kept by
every command and by every step. -/

namespace Sys2Proof.Machine

/-- The effects of the requests: `RequestEffect s t` says that some request, taken in `s`, can leave `t` (its reply apart). -/
inductive RequestEffect (s : State) : State → Prop
  | nothing : RequestEffect s s
  | halt : RequestEffect s s.takeHalt
  | run (h : s.mode ≠ .hold) : RequestEffect s s.takeRun
  | resume (h : s.mode = .hold) : RequestEffect s s.takeResume
  | dayClock (v : Nat) (h : v ≤ 86399) : RequestEffect s { s with dayClock := some v }
  | curfew (v w : Nat) : RequestEffect s { s with curfewStart := clamp 0 86399 v, curfewEnd := clamp 0 86399 w }
  | scanPeriod (v : Nat) : RequestEffect s { s with scanPeriod := scanPeriodOf v }
  | zone (n : ZoneNo) (f : ZoneFields) (h : f.changesWidth (s.zones.get n).config = true → s.mode = .halted) :
      RequestEffect s (s.setZone n { s.zones.get n with config := f.store (s.zones.get n).config })
  | period (v : Nat) : RequestEffect s { s with period := periodOf v }
  | retries (v : Nat) : RequestEffect s { s with retries := clamp 0 2 v }
  | span (n : Span) (hm : s.mode = .halted) (hc : n.size < s.span.size → s.claimedAbove n = false) :
      RequestEffect s (s.changeSpan n)
  | curve (n : CurveNo) (l : List Breakpoint) (h : validCurve l = true) :
      RequestEffect s { s with curves := s.curves.set n ((s.curves.get n).load (decide (s.mode = .halted)) l) }
  | face (i : FaceNo) (f : FaceFields) : RequestEffect s (s.setFaceConfig i (f.store (s.faces.get i).config))
  | enabled (members : FaceSet) (flag : Bool) : RequestEffect s (s.eachFace (State.setEnabled members flag))
  | condition (members : FaceSet) (c : Conditioning) (h : ∀ v ∈ c.level, v ≤ 10000) :
      RequestEffect s (s.eachFace (State.conditionFace members c))
  | restore (i : FaceNo) (h : (s.faces.get i).dyn.state = .cutoff)
      (ho : kindIn (s.faces.get i).dyn.asserted .overbright = false) : RequestEffect s (s.restoreFace i)
  | persist (k : FaultKind) (a c : Option Nat) :
      RequestEffect s { s with persist := s.persist.set k.no ((s.persist.get k.no).store a c) }
  | snapshot : RequestEffect s s.takeSnapshot
  | autosnap (on : Bool) : RequestEffect s (s.setAutosnap on)
  | fetch : RequestEffect s s.takeFetch
  | changes : RequestEffect s { s with changeSet := 0#32, otherLost := false }
  | holdoff (v : Nat) : RequestEffect s { s with holdoff := clamp 0 15 v }
  | collect : RequestEffect s { s with restarted := false, hazard := 0#32, lapsed := 0#32 }
  | claim (set : FaceSet) (mode : ClaimMode) (hold : Nat) (h : ∀ v ∈ mode.level, v ≤ 10000) :
      RequestEffect s (s.eachFace (State.claimFace (s.span.foldSet set) ⟨mode, 60 * clamp 0 maxHold hold⟩))
  | release (members : FaceSet) : RequestEffect s (s.eachFace (State.releaseFace members))

theorem clamp_le (lo hi v : Nat) (h : lo ≤ hi) : clamp lo hi v ≤ hi := by unfold clamp; omega
theorem le_clamp (lo hi v : Nat) : lo ≤ clamp lo hi v := by unfold clamp; omega

theorem readConditioning_level {code : Byte} {level : Nat} {c : Conditioning} (h : readConditioning code level = some c) :
    ∀ v ∈ c.level, v ≤ 10000 := by
  unfold readConditioning at h
  split at h <;> cases h <;> intro v hv <;> simp only [Conditioning.level, Option.mem_def, Option.some.injEq, reduceCtorEq] at hv
  subst hv; exact clamp_le 0 10000 level (Nat.zero_le _)

theorem readClaimMode_level {code : Byte} {level : Nat} {m : ClaimMode} (h : readClaimMode code level = some m) :
    ∀ v ∈ m.level, v ≤ 10000 := by
  unfold readClaimMode at h
  split at h <;> cases h <;> intro v hv <;> simp only [ClaimMode.level, Option.mem_def, Option.some.injEq, reduceCtorEq] at hv
  subst hv; exact clamp_le 0 10000 level (Nat.zero_le _)

/-- The judgement of every request has one of the effects, and none when it refuses (R169). -/
theorem judgeKind_effect (kind : RequestKind) (payload : List Byte) (s : State) :
    RequestEffect s (judgeKind kind payload s).2 := by
  cases kind <;> simp only [judgeKind]
  case ping => unfold judgePing; split <;> exact .nothing
  case status => unfold judgeStatus; split <;> exact .nothing
  case reset => unfold judgeReset; split <;> exact .nothing
  case run =>
    unfold judgeRun; split
    · split
      · exact .nothing
      · rename_i h; exact .run h
    · exact .nothing
  case halt => unfold judgeHalt; split; exact .halt; exact .nothing
  case resume =>
    unfold judgeResume; split
    · split
      · rename_i h; dsimp only; exact .resume h
      · exact .nothing
    · exact .nothing
  case setTime =>
    unfold judgeSetTime; split
    · exact .nothing
    · dsimp only; split
      · exact .nothing
      · exact .dayClock _ (by omega)
    · exact .nothing
  case setCurfew => unfold judgeSetCurfew; split; exact .nothing; exact .curfew _ _; exact .nothing
  case setScan => unfold judgeSetScan; split; exact .nothing; exact .scanPeriod _; exact .nothing
  case setZone =>
    unfold judgeSetZone judgeZoneFields; split
    · split
      · split
        · exact .nothing
        · dsimp only; split
          · exact .nothing
          · split
            · exact .nothing
            · rename_i h
              exact .zone _ _ (fun hw => Classical.byContradiction fun hm => h ⟨hw, hm⟩)
      · exact .nothing
    · exact .nothing
  case readZone => unfold judgeReadZone; split; split <;> exact .nothing; exact .nothing
  case readSensor => unfold judgeReadSensor; split; split <;> exact .nothing; exact .nothing
  case setCycle => unfold judgeSetCycle; split; exact .nothing; exact .period _; exact .nothing
  case setRetries => unfold judgeSetRetries; split; exact .nothing; exact .retries _; exact .nothing
  case setSpan =>
    unfold judgeSetSpan; split
    · exact .nothing
    · split
      · exact .nothing
      · rename_i hm
        split
        · exact .nothing
        · split
          · exact .nothing
          · rename_i h
            refine .span _ (by simpa using hm) (fun hlt => ?_)
            cases hc : s.claimedAbove _ with
            | false => rfl
            | true => exact absurd ⟨hlt, hc⟩ h
    · exact .nothing
  case loadCurve =>
    unfold judgeLoadCurve judgeCurve; split
    · split
      · split
        · exact .nothing
        · split
          · rename_i h; exact .curve _ _ h
          · exact .nothing
      · exact .nothing
    · exact .nothing
  case readCurve => unfold judgeReadCurve; split; split <;> exact .nothing; exact .nothing
  case setFace =>
    unfold judgeSetFace judgeFaceFields; split
    · split
      · split
        · exact .face _ _
        · exact .nothing
      · exact .nothing
    · exact .nothing
  case enable => unfold judgeEnabling; split; exact .enabled _ _; exact .nothing
  case disable => unfold judgeEnabling; split; exact .enabled _ _; exact .nothing
  case condition =>
    unfold judgeCondition; split
    · dsimp only; split
      · rename_i h; exact .condition _ _ (readConditioning_level h)
      · rename_i h; exact .condition _ _ (readConditioning_level ‹_›)
      · exact .nothing
    · exact .nothing
  case restore =>
    unfold judgeRestore; split
    · dsimp only; split
      · rename_i h; exact .restore _ h.1 h.2
      · exact .nothing
    · exact .nothing
  case readFace => unfold judgeReadFace; split <;> exact .nothing
  case setPersist =>
    unfold judgeSetPersist; split
    · split
      · split
        · exact .persist _ _ _
        · exact .nothing
      · exact .nothing
    · exact .nothing
  case snapshot => unfold judgeSnapshot; split; exact .snapshot; exact .nothing
  case setAutosnap => unfold judgeSetAutosnap; split; exact .nothing; split; exact .autosnap _; exact .nothing; exact .nothing
  case readCounts => unfold judgeReadCounts; split <;> exact .nothing
  case fetch => unfold judgeFetch; split; exact .fetch; exact .nothing
  case changes => unfold judgeChanges; split; exact .changes; exact .nothing
  case setHoldoff => unfold judgeSetHoldoff; split; exact .nothing; exact .holdoff _; exact .nothing
  case authStatus => unfold judgeAuthStatus; split; exact .collect; exact .nothing
  case authReadFace => unfold judgeAuthReadFace; split <;> exact .nothing
  case claim =>
    unfold judgeClaim; split
    · split
      · rename_i h; exact .claim _ _ _ (readClaimMode_level h)
      · exact .nothing
    · exact .nothing
  case release => unfold judgeRelease; split; exact .release _; exact .nothing

/-- What a frame with a good CRC does, judged by its kind code, is the effect of some request, or nothing. -/
theorem judgeFrame_effect (l : Link) (kind : Byte) (payload : List Byte) (s : State) :
    RequestEffect s (judgeFrame l kind payload s).2 := by
  unfold judgeFrame
  split
  · exact judgeKind_effect _ _ _
  · exact .nothing

/-- The command that is a request is the taking of that request on its link. -/
theorem exec_request {i : Instr} {r : Request} (h : i.request = some r) (s : State) :
    exec i s = .next (s.takeRequest r.kind.link r.kind.code r.tag (judgeKind r.kind r.payload)) := by
  cases i <;> simp only [Instr.request, Option.some.injEq, reduceCtorEq] at h <;> subst h <;> rfl

/-- What a property of states must survive to be kept by the taking of any request. -/
theorem takeRequest_keeps {P : State → Prop} {l : Link} {k t : Byte} {j : State → Answer × State} {s : State}
    (hj : s.resetting = false → P (j s).2) (hd : s.resetting = false → P (s.discardFrame l))
    (hr : ∀ u r, s.resetting = false → P u → P (u.setPort l { u.port l with reply := some r })) (hs : P s) :
    P (s.takeRequest l k t j) := by
  rcases takeRequest_cases s l k t j with ⟨h, _⟩ | ⟨h, h0⟩ | ⟨h, h0, _⟩
  · rw [h]; exact hs
  · rw [h]; exact hd h0
  · rw [h]; exact hr _ _ h0 (hj h0)

/-- Every command answers a next state. -/
theorem exec_next (i : Instr) (s : State) : ∃ t, exec i s = .next t := by cases i <;> exact ⟨_, rfl⟩

/-- A property that every command keeps, on states that differ in their queue alone, every step keeps. -/
theorem step_keeps {P : State → Prop} (hq : ∀ s q, P s → P { s with pending := q })
    (h : ∀ i s t, P s → exec i s = .next t → P t) {s t : State} (hs : P s) (hst : step s = .next t) : P t := by
  unfold step at hst
  split at hst
  · cases hst; exact hs
  · exact h _ _ _ (hq s _ hs) hst

end Sys2Proof.Machine
end

