-- ==== Sys2Proof/Laws/PerInstr.lean ====
section
/-! SUPPORT. Laws/PerInstr.lean: the table of requests (section 11.5), command by command: the kind code of a request names it on the
link that accepts it, and names nothing on the other link. -/

namespace Sys2Proof.Laws.RequestTable

open Sys2Proof.Machine

/-- The code of the request that a command is names that request on its link, and nothing on the other; of an event it says
nothing. -/
def Statement (i : Instr) : Prop :=
  ∀ r : Request, i.request = some r →
    requestOf r.kind.link r.kind.code = some r.kind ∧ ∀ l : Link, l ≠ r.kind.link → requestOf l r.kind.code = none

/-- The table, request by request. -/
theorem of_kind (k : RequestKind) :
    requestOf k.link k.code = some k ∧ ∀ l : Link, l ≠ k.link → requestOf l k.code = none := by
  constructor
  · cases k <;> decide
  · intro l hl
    cases l <;> cases k <;> first | exact absurd rfl hl | decide

theorem of_request {i : Instr} (r : Request) (_ : i.request = some r) :
    requestOf r.kind.link r.kind.code = some r.kind ∧ ∀ l : Link, l ≠ r.kind.link → requestOf l r.kind.code = none :=
  of_kind r.kind

theorem ping (tag : Byte) (payload : List Byte) : Statement (.ping tag payload) := of_request
theorem status (tag : Byte) (payload : List Byte) : Statement (.status tag payload) := of_request
theorem reset (tag : Byte) (payload : List Byte) : Statement (.reset tag payload) := of_request
theorem run (tag : Byte) (payload : List Byte) : Statement (.run tag payload) := of_request
theorem halt (tag : Byte) (payload : List Byte) : Statement (.halt tag payload) := of_request
theorem resume (tag : Byte) (payload : List Byte) : Statement (.resume tag payload) := of_request
theorem setTime (tag : Byte) (payload : List Byte) : Statement (.setTime tag payload) := of_request
theorem setCurfew (tag : Byte) (payload : List Byte) : Statement (.setCurfew tag payload) := of_request
theorem setScan (tag : Byte) (payload : List Byte) : Statement (.setScan tag payload) := of_request
theorem setZone (tag : Byte) (payload : List Byte) : Statement (.setZone tag payload) := of_request
theorem readZone (tag : Byte) (payload : List Byte) : Statement (.readZone tag payload) := of_request
theorem readSensor (tag : Byte) (payload : List Byte) : Statement (.readSensor tag payload) := of_request
theorem setCycle (tag : Byte) (payload : List Byte) : Statement (.setCycle tag payload) := of_request
theorem setRetries (tag : Byte) (payload : List Byte) : Statement (.setRetries tag payload) := of_request
theorem setSpan (tag : Byte) (payload : List Byte) : Statement (.setSpan tag payload) := of_request
theorem loadCurve (tag : Byte) (payload : List Byte) : Statement (.loadCurve tag payload) := of_request
theorem readCurve (tag : Byte) (payload : List Byte) : Statement (.readCurve tag payload) := of_request
theorem setFace (tag : Byte) (payload : List Byte) : Statement (.setFace tag payload) := of_request
theorem enable (tag : Byte) (payload : List Byte) : Statement (.enable tag payload) := of_request
theorem disable (tag : Byte) (payload : List Byte) : Statement (.disable tag payload) := of_request
theorem condition (tag : Byte) (payload : List Byte) : Statement (.condition tag payload) := of_request
theorem restore (tag : Byte) (payload : List Byte) : Statement (.restore tag payload) := of_request
theorem readFace (tag : Byte) (payload : List Byte) : Statement (.readFace tag payload) := of_request
theorem setPersist (tag : Byte) (payload : List Byte) : Statement (.setPersist tag payload) := of_request
theorem snapshot (tag : Byte) (payload : List Byte) : Statement (.snapshot tag payload) := of_request
theorem setAutosnap (tag : Byte) (payload : List Byte) : Statement (.setAutosnap tag payload) := of_request
theorem readCounts (tag : Byte) (payload : List Byte) : Statement (.readCounts tag payload) := of_request
theorem fetch (tag : Byte) (payload : List Byte) : Statement (.fetch tag payload) := of_request
theorem changes (tag : Byte) (payload : List Byte) : Statement (.changes tag payload) := of_request
theorem setHoldoff (tag : Byte) (payload : List Byte) : Statement (.setHoldoff tag payload) := of_request
theorem authStatus (tag : Byte) (payload : List Byte) : Statement (.authStatus tag payload) := of_request
theorem authReadFace (tag : Byte) (payload : List Byte) : Statement (.authReadFace tag payload) := of_request
theorem claim (tag : Byte) (payload : List Byte) : Statement (.claim tag payload) := of_request
theorem release (tag : Byte) (payload : List Byte) : Statement (.release tag payload) := of_request
theorem linkByteReceived (link : Link) (byte : Byte) (framingError : Bool) : Statement (.linkByteReceived link byte framingError) := of_request
theorem linkFrameTimeout (link : Link) : Statement (.linkFrameTimeout link) := of_request
theorem replySent (link : Link) (straps : Straps) : Statement (.replySent link straps) := of_request
theorem cycleTimerExpiry : Statement (.cycleTimerExpiry) := of_request
theorem chainFrameSent : Statement (.chainFrameSent) := of_request
theorem replyWindowExpiry : Statement (.replyWindowExpiry) := of_request
theorem chainByteReceived (byte : Byte) : Statement (.chainByteReceived byte) := of_request
theorem chainReplyGapTimeout : Statement (.chainReplyGapTimeout) := of_request
theorem scanTimerExpiry : Statement (.scanTimerExpiry) := of_request
theorem sensorPollEnd (result : PollEnd) : Statement (.sensorPollEnd result) := of_request
theorem sensorPollTimeout : Statement (.sensorPollTimeout) := of_request
theorem oneSecondEvent : Statement (.oneSecondEvent) := of_request
theorem claimLapse (face : FaceNo) : Statement (.claimLapse face) := of_request
theorem autoSnapshot : Statement (.autoSnapshot) := of_request
theorem holdoffExpiry : Statement (.holdoffExpiry) := of_request
theorem resetPinLow : Statement (.resetPinLow) := of_request
theorem resetPinRelease (straps : Straps) : Statement (.resetPinRelease straps) := of_request
theorem supplyDip : Statement (.supplyDip) := of_request
theorem supplyOff : Statement (.supplyOff) := of_request
theorem supplyRecovery (straps : Straps) : Statement (.supplyRecovery straps) := of_request

end Sys2Proof.Laws.RequestTable
end

