-- ==== Sys2Proof/Tests/Slice0.lean ====
section
/-! SUPPORT. Tests/Slice0.lean: the model's own tests. The refused ill-formed commands, the manual's worked examples, and for every
statement with hypotheses a state and operands that meet them. Every test looks at one step, or at one operation. -/

namespace Sys2Proof.Tests

-- The tests are evaluated one after the other: each in a thread of its own would need too many threads.
set_option Elab.async false

open Sys2Proof Sys2Proof.Machine

/-! ### Small states -/

/-- The state after a command; no command stops. -/
def after (c : Instr) (s : State) : State :=
  match exec c s with
  | .next t => t
  | .fault _ | .refused _ => s

/-- Face `i` with its record changed. -/
def withFace (i : FaceNo) (f : Face → Face) (s : State) : State := { s with faces := s.faces.modify i f }

/-- An enabled face, ACTIVE at a level, that has declared 12 bits, a photometer and 24 strings. -/
def litFace (level : Nat) (f : Face) : Face :=
  { f with
    config := { f.config with enabled := true }
    dyn := { f.dyn with
      state := .active, commanded := some level, capability := some ⟨.w12, true, 24⟩, shown := some ⟨1310, .w12⟩ } }

/-- A slot of face `i` with this frame, its window open. -/
def openWindow (i : FaceNo) (frame : ChainFrame) (extension waits : Nat) : Slot :=
  { face := i, frame := frame, wrote := some 2400, extension := extension, dmax := 3, permitted := 2, outcomes := []
    attempt := .listening 2 waits false none }

/-- RUNNING with face 12 ACTIVE and listened to, a sensor GOOD, a claim, a command waiting. -/
def busy : State :=
  { withFace 12 (litFace 2400) State.reset with
    mode := .running
    claims := State.reset.claims.set 3 (some ⟨.cap 600, 1⟩)
    sensors := State.reset.sensors.set 1 ⟨.good, 0, 0, some 1900⟩
    cycle := some ⟨[], openWindow 12 (.level .w12 1310 none) 0 0, []⟩
    pending := [.replyWindowExpiry] }

/-- Face 12 of `busy` in CUTOFF, its slot over. -/
def cutOff : State := withFace 12 (fun f => { f with dyn := { f.dyn with state := .cutoff } }) { busy with cycle := none }

/-- HOLD with face 12 ACTIVE and OVERBRIGHT asserted on it. -/
def hotInHold : State :=
  withFace 12 (fun f => { litFace 2399 f with dyn := { (litFace 2399 f).dyn with asserted := 0x40#8 } }) State.reset

/-- A port with a reply on its way. -/
def replying (r : Reply) : State := State.reset.setPort .control ⟨.waiting, some r, 0⟩

/-- A port that has taken these bytes of a frame. -/
def receiving (l : Link) (bytes : List Byte) : State := State.reset.setPort l ⟨.receiving bytes, none, 0⟩

/-- A reset in progress. -/
def inReset : State := after .resetPinLow busy

/-- The answer on its way on the control link. -/
def answerOf (s : State) : Option Answer := s.control.reply.map Reply.answer

/-! ### Ill-formed commands -/

/-- The check refuses a request whose payload fits no frame, on either link, and admits the longest that fits. -/
theorem test_wellFormed_refuses_long_payload :
    (Instr.ping 0#8 (List.replicate 199 0#8)).wellFormed = false ∧
      (Instr.claim 7#8 (List.replicate 300 1#8)).wellFormed = false ∧
      (Instr.loadCurve 0#8 (List.replicate 198 0#8)).wellFormed = true ∧ Instr.oneSecondEvent.wellFormed = true := by
  decide +kernel

/-- No table word spells a command. -/
theorem test_decodeTableWord_none : decodeTableWord 8 1 = none ∧ decodeTableWord 0 0 = none := by decide

/-! ### The manual's worked examples -/

/-- Example 1.6: the first proof words after a reset, and the register left. -/
theorem test_example_1_6 :
    proofWord 0x7FFF#15 = (0xFFFE#16, 0x0002#15) ∧ proofWord 0x0002#15 = (0x0004#16, 0x000C#15) ∧
      proofWord 0x000C#15 = (0x0018#16, 0x0028#15) := by decide +kernel

/-- R1, R27: the values the rules bring onto their steps; R27's 1,234 ms meets the end of its own range (log entry 13). -/
theorem test_steps : periodOf 1234 = 1230 ∧ periodOf 20 = 50 ∧ scanPeriodOf 1234 = 1000 ∧ scanPeriodOf 80 = 100 := by decide

/-- Example 1.5 and R20: folding. -/
theorem test_folding :
    Span.s16.fold 29 = 13 ∧ Span.s16.fold 21 = 5 ∧ Span.s16.foldSet 0x00280028#32 = 0x00000028#32 ∧
      Span.s8.foldSet 0x01010101#32 = 0x00000001#32 := by decide +kernel

/-- Example 2.2: the filter and the disagreement test. -/
theorem test_example_2_2 :
    filterStep 8000 2000 12 2 = 3500 ∧ filterStep 3500 2000 12 2 = 2375 ∧ filterStep 2375 3000 12 2 = 2453 ∧
      filterStep 2453 3000 12 2 = 2521 ∧ filterStep 2995 3000 12 2 = 2996 ∧
      disagreeTest [9000, 2000] = true ∧ disagreeTest [8000, 2000] = false ∧ disagreeTest [3000] = false := by decide

/-- Example 2.3: a window that crosses midnight; and the other rows of R46. -/
theorem test_example_2_3 :
    curfewTest (some 79199) 79200 21600 = false ∧ curfewTest (some 79200) 79200 21600 = true ∧
      curfewTest (some 86399) 79200 21600 = true ∧ curfewTest (some 0) 79200 21600 = true ∧
      curfewTest (some 21599) 79200 21600 = true ∧ curfewTest (some 21600) 79200 21600 = false ∧
      curfewTest none 0 0 = true ∧ curfewTest (some 5) 7 7 = false ∧ curfewTest (some 6) 5 7 = true := by decide

/-- The curves of example 3.1. -/
def dayCurve : List Breakpoint := [⟨0, 150⟩, ⟨100, 400⟩, ⟨1000, 1500⟩, ⟨10000, 6000⟩, ⟨40000, 7500⟩]
def nightCurve : List Breakpoint := [⟨5, 40⟩, ⟨200, 40⟩, ⟨2000, 900⟩]

/-- Example 3.1: the lookups. -/
theorem test_example_3_1 :
    curveLookup dayCurve 2350 = 2175 ∧ curveLookup dayCurve 0 = 150 ∧ curveLookup dayCurve 55 = 287 ∧
      curveLookup dayCurve 1000 = 1500 ∧ curveLookup dayCurve 9999 = 5999 ∧ curveLookup dayCurve 25000 = 6750 ∧
      curveLookup dayCurve 40000 = 7500 ∧ curveLookup dayCurve 100000 = 7500 ∧ curveLookup nightCurve 4 = 40 ∧
      curveLookup nightCurve 199 = 40 ∧ curveLookup nightCurve 200 = 40 ∧ curveLookup nightCurve 1100 = 470 ∧
      curveLookup nightCurve 2000 = 900 := by decide +kernel

/-- Examples 4.1 to 4.4: the stages, the codes and the reverse conversion. -/
theorem test_examples_4 :
    trimmed 2175 280 = 2379 ∧ compensated 2379 (some (24, 2)) = 2595 ∧
      capInForce 7000 6500 none none none = 6500 ∧ capInForce 7000 6500 (some 350) none none = 350 ∧
      capInForce 7000 6500 none (some 3500) none = 3500 ∧
      nextLevel ⟨2595, .slewed, false⟩ 6500 2100 300 400 = 2400 ∧ nextLevel ⟨350, .slewed, false⟩ 350 2400 300 400 = 350 ∧
      nextLevel ⟨2595, .slewed, false⟩ 6500 3750 300 400 = 3350 ∧
      driveCode 2400 7500 .w12 = 1310 ∧ driveCode 2400 7500 .w8 = 82 ∧ driveCode 350 7500 .w12 = 191 ∧
      driveCode 6500 7500 .w12 = 3549 ∧ driveCode 3500 7500 .w12 = 1911 ∧ driveCode 8000 7500 .w8 = 255 ∧
      reverseConvert ⟨1310, .w12⟩ 7500 = 2399 ∧ reverseConvert ⟨2048, .w12⟩ 7500 = 3750 ∧
      reverseConvert ⟨128, .w8⟩ 7500 = 3764 := by decide +kernel

/-- Example 4.5: a pattern run's goals and steps. -/
theorem test_example_4_5 :
    goalOf .active none .pattern 0 6500 3 = ⟨2785, .direct, true⟩ ∧ goalOf .active none .pattern 0 6500 7 = ⟨6500, .direct, true⟩ ∧
      nextStep ⟨0, .direct, true⟩ 7 = 0 ∧ nextStep ⟨0, .direct, true⟩ 3 = 4 ∧ nextStep ⟨0, .slewed, false⟩ 3 = 3 ∧
      goalOf .active (some ⟨.blank, 9⟩) .pattern 0 6500 7 = ⟨0, .immediate, false⟩ := by decide +kernel

/-- R111: the thresholds of OVERBRIGHT. -/
theorem test_overbright_thresholds :
    let r (m : Nat) : SlotReport := ⟨0, .hold, none, 2, [.valid], some (.status ⟨⟨0, .w8⟩, ⟨false, false, false⟩, none, some m, none⟩)⟩
    let d (level : Nat) : FaceDynamic :=
      { FaceDynamic.cleared .active with capability := some ⟨.w8, true, 0⟩, delivered := some level }
    observe (r 100) (d 0) .overbright = .absent ∧ observe (r 101) (d 0) .overbright = .present ∧
      observe (r 537) (d 350) .overbright = .absent ∧ observe (r 538) (d 350) .overbright = .present := by decide +kernel

/-- R167: the CRC's check value. -/
theorem test_crc :
    crcOf [0x31#8, 0x32#8, 0x33#8, 0x34#8, 0x35#8, 0x36#8, 0x37#8, 0x38#8, 0x39#8] = 0x29B1#16 := by decide +kernel

/-! ### Commands, one step each -/

theorem test_ping : answerOf (after (.ping 1#8 []) State.reset) = some (.done false [0x2C#8, 0x71#8, 3#8, 32#8, 1#8]) ∧
    answerOf (after (.ping 1#8 [0#8]) State.reset) = some (.refused .badLength) := by decide +kernel

/-- The reset state as STATUS reports it: HOLD, POWER_ON, clock unset, count 1 (R174), one notice. -/
theorem test_status : answerOf (after (.status 1#8 []) State.reset) =
    some (.done false [0#8, 0#8, 0#8, 0#8, 0#8, 0#8, 0#8, 0#8, 0#8, 1#8, 0#8, 0#8, 1#8, 0#8, 0#8, 0#8, 0#8]) := by decide +kernel

/-- R159: HALT taken in HOLD with no cycle in progress cuts off, halts at once and answers HALTED. -/
theorem test_halt : let t := after (.halt 1#8 []) hotInHold
    t.mode = .halted ∧ t.cycleTimer = none ∧ t.hazard = 0x1000#32 ∧ (t.faces.get 12).dyn.state = .cutoff ∧
      (t.faces.get 12).dyn.commanded = some 0 ∧ answerOf t = some (.done false [3#8]) ∧
      t.queue.map Notice.body = [.restart .powerOn, .faceState 12 .cutoff false, .mode .halted] := by decide +kernel

/-- R160: RUN in HALTED starts a cycle; in HOLD it is refused. -/
theorem test_run : let t := after (.run 1#8 []) { State.reset with mode := .halted, cycleTimer := none, period := 500 }
    t.mode = .running ∧ t.cycleTimer = some 500 ∧ t.cycleCount = 2#32 ∧
      answerOf (after (.run 1#8 []) State.reset) = some (.refused .wrongMode) := by decide +kernel

/-- Example 10.1: RESUME. -/
theorem test_resume :
    let t := after (.resume 1#8 []) (withFace 3 (litFace 0) hotInHold)
    t.mode = .running ∧ (t.faces.get 12).dyn.state = .cutoff ∧ (t.faces.get 12).dyn.live.cutoffs = 1 ∧
      (t.faces.get 3).dyn.commanded = some 2399 ∧ t.cycle = none := by decide +kernel

theorem test_reset : answerOf (after (.reset 1#8 []) State.reset) = some (.done false []) ∧
    (after (.replySent .control ⟨true, true⟩) (after (.reset 1#8 []) State.reset)).mode = .running ∧
    (after (.replySent .control ⟨true, true⟩) (after (.reset 1#8 []) State.reset)).queue = [⟨.restart .linkRequest, 0#16⟩] := by
  decide +kernel

theorem test_setTime : (after (.setTime 1#8 [1#8, 0x51#8, 0x7F#8]) State.reset).dayClock = some 86399 ∧
    answerOf (after (.setTime 1#8 [1#8, 0x51#8, 0x7F#8]) State.reset) = some (.done false [1#8, 0x51#8, 0x7F#8]) ∧
    answerOf (after (.setTime 1#8 []) State.reset) = some (.done false [0#8, 0#8, 0#8, 0#8]) ∧
    answerOf (after (.setTime 1#8 [1#8, 0x51#8, 0x80#8]) State.reset) = some (.refused .badValue) := by decide +kernel

theorem test_setCurfew : let t := after (.setCurfew 1#8 [1#8, 0x35#8, 0x60#8, 0xFF#8, 0#8, 0#8]) State.reset
    t.curfewStart = 79200 ∧ t.curfewEnd = 86399 ∧
      answerOf t = some (.done true [1#8, 0x35#8, 0x60#8, 1#8, 0x51#8, 0x7F#8]) := by decide +kernel

theorem test_setScan_setCycle :
    (after (.setScan 1#8 [0x04#8, 0xD2#8]) State.reset).scanPeriod = 1000 ∧ (after (.setCycle 1#8 [0x04#8, 0xD2#8]) State.reset).period = 1230 ∧
      (after (.setCycle 1#8 [0x04#8, 0xD2#8]) State.reset).cycleTimer = some 200 := by decide +kernel

theorem test_setRetries_setHoldoff :
    answerOf (after (.setRetries 1#8 [3#8]) State.reset) = some (.done true [2#8]) ∧
      answerOf (after (.setHoldoff 1#8 [16#8]) State.reset) = some (.done true [15#8]) := by decide +kernel

/-- R39: a width that differs is refused outside HALTED; in HALTED it is stored with the others, clamped. -/
theorem test_setZone :
    let f : ZoneFields := ⟨some 2, some 255, none, some 20, none, none, none, some 12, none, none⟩
    answerOf (after (.setZone 1#8 (zonePayload 7#8 0 f)) State.reset) = some (.refused .wrongMode) ∧
      answerOf (after (.setZone 1#8 (zonePayload 8#8 0 f)) State.reset) = some (.refused .badValue) ∧
      ((after (.setZone 1#8 (zonePayload 7#8 0 f)) { State.reset with mode := .halted }).zones.get 7).config
        = { ZoneConfig.cold .w12 with naming := ⟨some 2, none⟩, rising := 16 } := by decide +kernel

theorem test_readZone_readSensor :
    answerOf (after (.readZone 1#8 [8#8]) State.reset) = some (.refused .badValue) ∧
      answerOf (after (.readSensor 1#8 [4#8]) State.reset) = some (.refused .badValue) ∧
      answerOf (after (.readSensor 1#8 [1#8]) busy) = some (.done false [2#8, 0#8, 0#8, 1#8, 0#8, 0x07#8, 0x6C#8]) := by
  decide +kernel

/-- Example 1.5: SET_SPAN. -/
theorem test_setSpan :
    let halted := { withFace 20 (litFace 5) State.reset with mode := .halted }
    answerOf (after (.setSpan 1#8 [16#8]) State.reset) = some (.refused .wrongMode) ∧
      answerOf (after (.setSpan 1#8 [12#8]) halted) = some (.refused .badValue) ∧
      answerOf (after (.setSpan 1#8 [16#8]) (halted.setClaim 20 (some ⟨.blank, 0⟩))) = some (.refused .wrongState) ∧
      (after (.setSpan 1#8 [16#8]) halted).span = .s16 ∧
      ((after (.setSpan 1#8 [16#8]) halted).faces.get 20).config.enabled = false ∧
      ((after (.setSpan 1#8 [16#8]) halted).faces.get 20).dyn.state = .offline := by decide +kernel

theorem test_loadCurve_readCurve :
    let t := after (.loadCurve 1#8 (curvePayload 3#8 dayCurve)) State.reset
    (t.curves.get 3).waiting = some dayCurve ∧ answerOf t = some (.done false [3#8, 5#8, 1#8]) ∧
      ((after (.loadCurve 1#8 (curvePayload 3#8 dayCurve)) { State.reset with mode := .halted }).curves.get 3).live = dayCurve ∧
      answerOf (after (.loadCurve 1#8 (curvePayload 3#8 [⟨5, 9⟩, ⟨5, 10⟩])) State.reset) = some (.refused .badValue) ∧
      answerOf (after (.readCurve 1#8 [0#8]) State.reset)
        = some (.done false [2#8, 0#8, 0#8, 0#8, 1#8, 0x2C#8, 1#8, 0x86#8, 0xA0#8, 1#8, 0x2C#8, 0#8]) := by decide +kernel

theorem test_setFace :
    let f : FaceFields := ⟨some 5, none, some 400, none, none, none, none, some 1⟩
    let t := after (.setFace 1#8 (facePayload 12#8 f)) State.reset
    (t.faces.get 12).config = { FaceConfig.cold with zone := 5, trim := 384, proof := true } ∧
      answerOf (after (.setFace 1#8 (facePayload 12#8 { f with proof := some 2 })) State.reset) = some (.refused .badValue) := by
  decide +kernel

theorem test_enable_disable :
    ((after (.enable 1#8 [0#8, 0#8, 0#8, 0x80#8]) State.reset).faces.get 7).config.enabled = true ∧
      ((after (.disable 1#8 [0#8, 0#8, 0x10#8, 0#8]) busy).faces.get 12).config.enabled = false ∧
      ((after (.disable 1#8 [0#8, 0#8, 0x10#8, 0#8]) busy).faces.get 12).dyn = (busy.faces.get 12).dyn := by decide +kernel

theorem test_condition :
    let t := after (.condition 1#8 [0#8, 0#8, 0#8, 8#8, 1#8, 0x27#8, 0x11#8]) busy
    (t.faces.get 3).config.conditioning = .fixed 10000 ∧
      answerOf t = some (.done true [0#8, 0#8, 0#8, 8#8, 0#8, 0#8, 0#8, 8#8]) ∧
      answerOf (after (.condition 1#8 [0#8, 0#8, 0#8, 8#8, 4#8, 0#8, 0#8]) busy) = some (.refused .badValue) := by decide +kernel

theorem test_restore :
    let t := after (.restore 1#8 [12#8]) cutOff
    (t.faces.get 12).dyn.state = .active ∧ (t.faces.get 12).dyn.commanded = some 0 ∧
      answerOf (after (.restore 1#8 [12#8]) busy) = some (.refused .wrongState) := by decide +kernel

theorem test_readFace : (answerOf (after (.readFace 1#8 [44#8]) busy)).map (fun a => match a with
      | .done _ data => (data.length, data.head?)
      | .refused _ => (0, none)) = some (61, some 12#8) := by decide +kernel

theorem test_setPersist :
    let t := after (.setPersist 1#8 [6#8, 3#8, 0#8, 20#8]) State.reset
    t.persist.get 6 = ⟨1, 15⟩ ∧ answerOf t = some (.done true [6#8, 1#8, 15#8]) ∧
      answerOf (after (.setPersist 1#8 [8#8, 0#8]) State.reset) = some (.refused .badValue) := by decide +kernel

theorem test_snapshot_readCounts :
    let s := withFace 12 (fun f => { f with dyn := { f.dyn with live := ⟨1, 2, 3, 4⟩ } }) { busy with seconds := 9#16, retriesSent := 5 }
    let t := after (.snapshot 1#8 []) s
    (t.faces.get 12).snap = ⟨1, 2, 3, 4⟩ ∧ (t.faces.get 12).dyn.live = ⟨0, 0, 0, 0⟩ ∧ t.snapRetries = 5 ∧ t.snapStamp = some 9#16 ∧
      t.overruns = s.overruns ∧
      answerOf (after (.readCounts 1#8 [12#8]) { State.reset with snapRetries := 7 })
        = some (.done false [12#8, 0#8, 0#8, 0#8, 0#8, 0#8, 0#8, 0#8, 0#8, 0#8, 7#8, 0#8, 0#8, 0#8]) := by decide +kernel

theorem test_setAutosnap :
    answerOf (after (.setAutosnap 1#8 [1#8]) { State.reset with autosnap := true, autoCount := 30 }) = some (.done false [1#8, 30#8]) ∧
      answerOf (after (.setAutosnap 1#8 [0#8]) { State.reset with autosnap := true, autoCount := 30 }) = some (.done false [0#8, 0#8]) ∧
      answerOf (after (.setAutosnap 1#8 [2#8]) State.reset) = some (.refused .badValue) := by decide +kernel

theorem test_fetch_changes :
    let t := after (.fetch 1#8 []) { State.reset with holdoff := 3, changeSet := 1#32 }
    t.queue = [] ∧ t.holdoffCount = 3 ∧ t.attn = false ∧
      answerOf t = some (.done false [0#8, 0#8, 0#8, 0#8, 0#8, 0#8, 0#8, 0#8, 1#8]) ∧
      (after (.changes 1#8 []) { State.reset with changeSet := 1#32 }).changeSet = 0#32 := by decide +kernel

theorem test_authStatus :
    let t := after (.authStatus 1#8 []) { busy with hazard := 0x1000#32 }
    t.hazard = 0#32 ∧ t.restarted = false ∧ t.aattn = false ∧
      t.authority.reply.map Reply.answer
        = some (.done false [1#8, 0#8, 1#8, 0#8, 0#8, 0x10#8, 0#8, 0#8, 0#8, 0#8, 0#8, 0#8, 0#8, 0#8, 8#8]) := by decide +kernel

/-- Example 7.1's renewal and release: a renewal posts nothing, a claim and a release post OWNER. -/
theorem test_claim :
    let t := after (.claim 1#8 [0#8, 0#8, 0#8, 0x18#8, 0#8, 0#8, 0#8, 0#8, 2#8]) busy
    t.claims.get 3 = some ⟨.blank, 120⟩ ∧ t.claims.get 4 = some ⟨.blank, 120⟩ ∧
      t.queue.map Notice.body = [.restart .powerOn, .owner 4 .authority false] := by decide +kernel

theorem test_release_authReadFace :
    let t := after (.release 1#8 [0#8, 0#8, 0#8, 0x18#8]) busy
    t.claims.get 3 = none ∧ t.lapsed = 0#32 ∧ t.authority.reply.map Reply.answer = some (.done false [0#8, 0#8, 0#8, 8#8]) ∧
      (after (.authReadFace 1#8 [3#8]) busy).authority.reply.map Reply.answer
        = some (.done false [3#8, 0#8, 0#8, 1#8, 1#8, 1#8, 0x02#8, 0x58#8, 0#8, 0#8, 1#8, 0#8, 0#8, 0#8, 0#8, 0#8, 0#8, 0#8]) := by
  decide +kernel

theorem test_linkByteReceived :
    (after (.linkByteReceived .authority 0xB4#8 false) State.reset).authority.receiver = .receiving [] ∧
      (after (.linkByteReceived .control 1#8 false) (receiving .control [])).control = ⟨.waiting, none, 1⟩ ∧
      (after (.linkByteReceived .control 201#8 false) (receiving .control [])).control = ⟨.waiting, none, 1⟩ ∧
      (after (.linkByteReceived .control 200#8 false) (receiving .control [])).control = ⟨.receiving [200#8], none, 0⟩ ∧
      (after (.linkByteReceived .control 0xB4#8 true) (receiving .control [2#8])).control = ⟨.waiting, none, 1⟩ := by decide +kernel

theorem test_linkFrameTimeout :
    (after (.linkFrameTimeout .control) (receiving .control [2#8])).control = ⟨.waiting, none, 1⟩ ∧
      (after (.linkFrameTimeout .control) State.reset).control = ⟨.waiting, none, 0⟩ := by decide +kernel

theorem test_replySent : (after (.replySent .control ⟨false, false⟩) (replying ⟨1#8, 2#8, .done false []⟩)).control = ⟨.waiting, none, 0⟩ := by
  decide +kernel

/-- Example 1.1: an overrun; and R5: the expiry that starts a cycle, here with face 12 joining. -/
theorem test_cycleTimerExpiry :
    let t := after .cycleTimerExpiry busy
    t.overruns = 1 ∧ t.overrunWaiting = true ∧ t.cycleTimer = none ∧ t.cycle = busy.cycle ∧
      ((after .cycleTimerExpiry (withFace 12 (fun f => { f with config := { f.config with enabled := true } }) State.reset)).cycle.map
        (fun c => (c.slot.face, c.slot.frame, c.slot.permitted))) = some (12, .ident, 2) := by decide +kernel

/-- Example 4.1 on the chain: the reference face's slot sends width 12 and code 1,310. -/
theorem test_reference_slot :
    let s := withFace 12 (fun f => { f with
        config := { f.config with zone := 5, curve := 3, trim := 280, cap := 7000, slewUp := 300 }
        dyn := { f.dyn with commanded := some 2100, stringsOut := some 2 } })
      { busy with
        curves := State.reset.curves.set 3 ⟨dayCurve, none⟩
        dayClock := some 40000
        zones := State.reset.zones.set 5 ⟨{ ZoneConfig.cold .w12 with zoneCap := 6500, dmax := 3 }, 2350, .sensors, false⟩
        cycle := none }
    ((after .cycleTimerExpiry s).cycle.map (fun c => (c.slot.frame, c.slot.wrote))) = some (.level .w12 1310 none, some 2400) := by
  decide +kernel

theorem test_chainFrameSent :
    let s := { busy with cycle := some ⟨[], { openWindow 12 .hold 2 0 with attempt := .sending }, []⟩ }
    s.fde = true ∧ s.chainOut = some [0x5C#8, 12#8, 2#8, 0x78#8, 0x20#8] ∧
      ((after .chainFrameSent s).cycle.map (fun c => c.slot.attempt)) = some (.listening 6 0 false none) := by decide +kernel

/-- R12, R17, R18: a SILENT attempt is retried; the last one ends the slot MISS, and the cycle ends. -/
theorem test_replyWindowExpiry :
    let t := after .replyWindowExpiry busy
    (t.cycle.map (fun c => (c.slot.attempt, c.slot.outcomes))) = some (.sending, [.silent]) ∧ t.retriesSent = 1 ∧
      (let last := { busy with cycle := some ⟨[], { openWindow 12 .hold 0 0 with outcomes := [.silent] }, []⟩ }
       (after .replyWindowExpiry last).cycle = none ∧ ((after .replyWindowExpiry last).faces.get 12).dyn.live.missed = 1) := by
  decide +kernel

/-- R13, R14: a WAIT complete at its last byte: honoured, and the ninth. -/
theorem test_chainByteReceived :
    let w (n : Nat) : State := { busy with cycle := some ⟨[], { openWindow 12 .hold 3 0 with
      attempt := .listening 2 n false (some [12#8, 0x83#8, 0xF9#8]) }, []⟩ }
    crcBytes (crcOf [12#8, 0x83#8]) = [0xF9#8, 0x89#8] ∧
      ((after (.chainByteReceived 0x89#8) (w 7)).cycle.map (fun c => c.slot.attempt)) = some (.listening 2 8 false none) ∧
      ((after (.chainByteReceived 0x89#8) (w 8)).cycle.map (fun c => c.slot.outcomes)) = some [.silent] := by decide +kernel

theorem test_chainReplyGapTimeout :
    let s := { busy with cycle := some ⟨[], { openWindow 12 .hold 0 0 with attempt := .listening 2 0 false (some [12#8]) }, []⟩ }
    ((after .chainReplyGapTimeout s).cycle.map (fun c => c.slot.outcomes)) = some [.corrupt] ∧
      ((after .chainReplyGapTimeout s).faces.get 12).dyn.live.corrupt = 1 := by decide +kernel

/-- Example 5.2's join: IDENTITY with width 8, a photometer, 16 strings and code 200. -/
theorem test_join :
    let s := withFace 7 (fun f => { f with dyn := FaceDynamic.cleared .joining }) State.reset
    let t := s.faultMonitor ⟨7, .ident, none, 2, [.valid], some (.identity ⟨.w8, true, 16, 200⟩)⟩
    (t.faces.get 7).dyn.state = .active ∧ (t.faces.get 7).dyn.commanded = some 5882 ∧ (t.faces.get 7).dyn.delivered = none ∧
      t.queue.map Notice.body = [.restart .powerOn, .faceState 7 .active false] := by decide +kernel

/-- R98, R120: OVERBRIGHT at its second present observation cuts the face off in RUNNING; in HOLD it does not (R99). -/
theorem test_cutoff :
    let s := withFace 12 (fun f => { f with dyn := { f.dyn with
      delivered := some 350, runs := f.dyn.runs.set 6 ⟨1, 0⟩ } }) busy
    let r : SlotReport := ⟨12, .level .w12 191 none, some 350, 2, [.valid],
      some (.status ⟨⟨191, .w12⟩, ⟨false, false, false⟩, none, some 538, none⟩)⟩
    ((s.faultMonitor r).faces.get 12).dyn.state = .cutoff ∧ (s.faultMonitor r).hazard = 0x1000#32 ∧
      (s.faultMonitor r).queue.map Notice.body = [.restart .powerOn, .faceFault 12 0x40#8, .faceState 12 .cutoff false] ∧
      ((({ s with mode := .hold } : State).faultMonitor r).faces.get 12).dyn.state = .active := by decide +kernel

/-- Log entry 16: a face in CUTOFF or ACTIVE as the slot end finds it, sent HOLD and LEVEL 0, answers IDENTITY. -/
theorem test_restarts :
    let x : FaceReply := .identity ⟨.w12, true, 24, 4095⟩
    let cut := (cutOff.faultMonitor ⟨12, .hold, none, 2, [.valid], some x⟩)
    let lit := (busy.faultMonitor ⟨12, .level .w12 0 none, some 0, 2, [.valid], some x⟩)
    (cut.faces.get 12).dyn.state = .cutoff ∧ (cut.faces.get 12).dyn.commanded = some 2400 ∧
      cut.queue.map Notice.body = [.restart .powerOn, .faceState 12 .cutoff true] ∧
      (lit.faces.get 12).dyn.commanded = some 7500 ∧ lit.queue.map Notice.body = [.restart .powerOn, .faceState 12 .active true] := by
  decide +kernel

/-- R28, R173: a scan start names sensor 2, forgets sensor 1, and polls at address 2A hex, with the address byte 55 hex. -/
theorem test_scanTimerExpiry :
    let s := { busy with zones := State.reset.zones.modify 4 (fun z => { z with config := { z.config with naming := ⟨some 2, none⟩ } }) }
    let t := after .scanTimerExpiry s
    t.sensorAddress = some 0x2A ∧ (t.sensorBus.map (fun b => b.take 2)) = some [.start, .address 0x55#8] ∧ t.sensors.get 2 = ⟨.doubtful, 0, 0, none⟩ ∧ t.sensors.get 1 = ⟨.unused, 0, 0, none⟩ ∧
      t.queue.map Notice.body = [.restart .powerOn, .sensor 1 .unused, .sensor 2 .doubtful] := by decide +kernel

/-- Example 2.1's scans 4 and 1: a fourth failed read, and a failed read that turns the zone to its fallback. -/
theorem test_sensorPolls :
    let naming := (Table.replicate 8 (Naming.mk none none)).set 2 ⟨some 1, none⟩
    let s (x : Sensor) : State := { busy with sensors := State.reset.sensors.set 1 x, scan := some ⟨naming, 1, []⟩ }
    (after .sensorPollTimeout (s ⟨.doubtful, 3, 0, some 1900⟩)).sensors.get 1 = ⟨.failed, 4, 0, some 1900⟩ ∧
      (after .sensorPollTimeout (s ⟨.doubtful, 3, 0, some 1900⟩)).busEnd = [.stop] ∧
      (after .resetPinLow (after .sensorPollTimeout (s ⟨.doubtful, 3, 0, none⟩))).busEnd = [] ∧
      (after (.sensorPollEnd (.valid 0#8 7#8 0x30#8)) (s ⟨.good, 0, 0, some 1900⟩)).busEnd = [.noAcknowledge, .stop] ∧
      (after (.sensorPollEnd .unacknowledged) (s ⟨.good, 0, 0, some 1900⟩)).sensors.get 1 = ⟨.doubtful, 1, 0, some 1900⟩ ∧
      (after (.sensorPollEnd (.valid 0xFF#8 0xFF#8 0xFF#8)) (s ⟨.failed, 4, 1, some 1860⟩)).sensors.get 1 = ⟨.good, 0, 0, some 100000⟩ ∧
      ((after (.sensorPollEnd (.valid 0#8 7#8 0x30#8)) (s ⟨.doubtful, 2, 0, none⟩)).zones.get 2).source = .sensors ∧
      ((after (.sensorPollEnd (.valid 0#8 7#8 0x30#8)) (s ⟨.doubtful, 2, 0, none⟩)).zones.get 2).ambient = 580 := by decide +kernel

/-- Example 7.2, second first: the lapse. -/
theorem test_oneSecondEvent :
    let t := after .oneSecondEvent { busy with dayClock := some 86399, holdoffCount := 2 }
    t.seconds = 1#16 ∧ t.dayClock = some 0 ∧ t.claims.get 3 = none ∧ t.lapsed = 8#32 ∧ t.holdoffCount = 1 ∧
      t.queue.map Notice.body = [.restart .powerOn, .owner 3 .operator true] ∧ t.queue.map Notice.stamp = [0#16, 1#16] := by
  decide +kernel

theorem test_claimLapse_autoSnapshot_holdoffExpiry :
    (after (.claimLapse 3) busy).claims.get 3 = none ∧ (after (.claimLapse 4) busy) = busy ∧
      (after .autoSnapshot { busy with autosnap := true, autoCount := 59 }).snapStamp = some 0#16 ∧
      (after .autoSnapshot { busy with autosnap := true, autoCount := 58 }).snapStamp = none ∧
      (after .holdoffExpiry { busy with holdoffCount := 1 }).attn = true ∧
      (after .holdoffExpiry { busy with holdoffCount := 2 }).attn = false := by decide +kernel

/-- Example 7.3 and R163: a PIN reset keeps the claims and is silent; a dip during it makes it cold. -/
theorem test_resetPin :
    inReset.resetting = true ∧ inReset.attn = false ∧ inReset.aattn = false ∧ inReset.cycle = none ∧
      (after (.resetPinRelease ⟨false, false⟩) inReset).claims.get 3 = some ⟨.cap 600, 1⟩ ∧
      (after (.resetPinRelease ⟨false, false⟩) inReset).lastCause = .pin ∧
      (after (.resetPinRelease ⟨false, false⟩) inReset).cycle.map (fun c => (c.slot.face, c.slot.frame)) = some (12, .ident) := by
  decide +kernel

theorem test_supply :
    (after .supplyDip inReset).resetLine = ⟨true, .dipped, some .supplyDip⟩ ∧
      (after .supplyOff State.reset).resetLine = ⟨false, .off, some .powerOn⟩ ∧
      (after (.supplyRecovery ⟨false, false⟩) (after .supplyOff busy)) = { State.reset with pending := busy.pending } ∧
      (after (.supplyRecovery ⟨true, true⟩) (after .supplyDip inReset)).resetLine = ⟨true, .working, some .supplyDip⟩ := by
  decide +kernel

/-! ### States and operands that meet the statements' hypotheses -/

/-- StepTakesFrontCommand's idle part. -/
theorem test_witness_idle : State.reset.pending = [] := rfl

/-- Every statement about a request taken on either link, in each mode, in a state that is not the reset state. -/
theorem test_witness_takes :
    State.reset.takes .control ∧ State.reset.takes .authority ∧ busy.takes .control ∧ busy.takes .authority ∧
      hotInHold.takes .control ∧ ({ busy with mode := .halting } : State).takes .control ∧
      ({ State.reset with mode := .halted } : State).takes .control := by decide +kernel

/-- OneReplyOrDiscarded: both clauses. -/
theorem test_witness_requests :
    (Instr.ping 1#8 []).request = some ⟨.ping, 1#8, []⟩ ∧ (Instr.claim 1#8 []).request = some ⟨.claim, 1#8, []⟩ ∧
      (replying ⟨1#8, 2#8, .done false []⟩).resetting = false ∧
      ((replying ⟨1#8, 2#8, .done false []⟩).port RequestKind.ping.link).reply ≠ none := by decide +kernel

/-- ResetInProgressIsDeaf, and ResetCompletes' causes. -/
theorem test_witness_reset : inReset.resetting = true ∧ inReset.resetLine = ⟨true, .working, some .pin⟩ := by decide +kernel

theorem test_witness_resetInv : ResetInv inReset := by decide +kernel

/-- FrameByteByByteIsItsRequest and UnknownKindRefused, at the longest payload and at the kinds DONE and of the other link. -/
theorem test_witness_frames :
    (Instr.ping 1#8 (List.replicate 198 0#8)).wellFormed = true ∧ State.reset.resetting = false ∧
      (State.reset.port .control).receiver = .waiting ∧ (State.reset.port .authority).receiver = .waiting := by decide +kernel

theorem test_witness_unknownKind :
    ∀ k : RequestKind, (k.link = .control → k.code ≠ 0x80#8) ∧ (k.link = .control → k.code ≠ 0x42#8) ∧ (k.link = .authority → k.code ≠ 0x01#8) := by
  intro k; cases k <;> decide

/-- FrameReception: each clause's receiver, at the boundary lengths 2 and 200. -/
theorem test_witness_reception :
    ((receiving .control []).port .control).receiver = .receiving [] ∧
      ((receiving .control [2#8, 1#8]).port .control).receiver = .receiving (2#8 :: [1#8]) ∧ [1#8].length ≤ (2#8).toNat ∧
      ((receiving .control [2#8, 1#8, 0#8, 7#8]).port .control).receiver = .receiving ((2#8 :: [1#8, 0#8]) ++ [7#8]) ∧
      [1#8, 0#8].length = (2#8).toNat ∧ [7#8, 9#8] ≠ crcBytes (crcOf [2#8, 1#8, 0#8]) ∧
      (List.replicate 200 0#8).length = (200#8).toNat := by decide +kernel

/-- ReplySent: no reply, a reply of another kind, and a refused RESET; ResetCompletes: the DONE of a RESET. -/
theorem test_witness_replies :
    (State.reset.port .control).reply = none ∧ (0x01#8 : Byte) ≠ 0x03#8 ∧
      ((replying ⟨3#8, 2#8, .refused .badLength⟩).port .control).reply = some ⟨3#8, 2#8, .refused .badLength⟩ ∧
      (replying ⟨3#8, 2#8, .done false []⟩).control.reply = some ⟨0x03#8, 2#8, .done false []⟩ ∧
      (replying ⟨3#8, 2#8, .done false []⟩).resetLine = ⟨false, .working, none⟩ := by decide +kernel

/-- ResetBegins: each row's condition met and not met. -/
theorem test_witness_resetBegins :
    State.reset.resetLine.pinLow = false ∧ inReset.resetLine.pinLow = true ∧ State.reset.resetLine.supply = .working ∧
      (after .supplyDip State.reset).resetLine.supply = .dipped := by decide +kernel

/-- SetZone, SetFace, SetPersist: fields that fit, and a length that disagrees. -/
theorem test_witness_fields :
    fieldsFit zoneSizes (ZoneFields.mk (some 3) (some 255) (some 100000) (some 16) none none none (some 12) (some 3) (some 8)).list = true ∧
      fieldsFit faceSizes (FaceFields.mk (some 7) (some 7) (some 384) none none none none (some 1)).list = true ∧
      fieldsFit [1, 1] [some 15, none] = true ∧ zonePayload 7#8 63 ⟨none, none, none, none, none, none, none, none, none, some 8⟩
        = [7#8, 0xFE#8, 0#8, 8#8] ∧ persistPayload 2#8 63 none (some 15) = [2#8, 0xFE#8, 15#8] ∧ [0#8].length ≠ markedBytes zoneSizes (word2 0#8 4#8) ∧
      markedBytes zoneSizes (word2 3#8 0xFF#8) = 14 ∧ ([] : List Byte).length ≠ markedBytes faceSizes (255#8).toNat ∧
      [1#8].length ≠ markedBytes [1, 1] (3#8).toNat := by decide +kernel

/-- LoadCurve and CurveLookup: valid lists of 2 and 12 breakpoints at the ends of their ranges, and lists that are not valid. -/
theorem test_witness_curves :
    ValidList [⟨0, 0⟩, ⟨100000, 10000⟩] ∧ ValidList ((List.range 12).map (fun k => ⟨k, 10000⟩)) ∧ ValidList dayCurve ∧
      ¬ValidList [⟨0, 0⟩] ∧ ¬ValidList ((List.range 13).map (fun k => ⟨k, 0⟩)) ∧ ¬ValidList [⟨0, 0⟩, ⟨100001, 0⟩] ∧
      ¬ValidList [⟨0, 10001⟩, ⟨1, 10001⟩] ∧ ¬ValidList [⟨0, 5⟩, ⟨1, 4⟩] ∧
      dayCurve = [⟨0, 150⟩] ++ ⟨100, 400⟩ :: ⟨1000, 1500⟩ :: [⟨10000, 6000⟩, ⟨40000, 7500⟩] ∧ [1#8].length ≠ 5 * (1#8).toNat := by
  decide +kernel

/-- NoticePosting: an entry to replace, room at the tail, and a full queue. -/
theorem test_witness_notices :
    State.reset.queue = [] ++ ⟨.restart .powerOn, 0#16⟩ :: [] ∧
      (NoticeBody.restart .powerOn).kindNo = (NoticeBody.restart .pin).kindNo ∧
      (NoticeBody.restart .powerOn).subject = (NoticeBody.restart .pin).subject ∧
      (∀ x ∈ State.reset.queue, ¬(x.body.kindNo = (NoticeBody.mode .hold).kindNo ∧ x.body.subject = (NoticeBody.mode .hold).subject)) ∧
      (let full := (allFaces.take 24).map (fun i => (⟨.owner i .operator false, 0#16⟩ : Notice))
       24 ≤ full.length ∧ ∀ x ∈ full, ¬(x.body.kindNo = (NoticeBody.mode .hold).kindNo ∧
          x.body.subject = (NoticeBody.mode .hold).subject)) := by decide +kernel

/-- OneSecond, CycleTimerExpiry, ScansAndPolls: a reset is not in progress, the two events coincide, a scan is under way. -/
theorem test_witness_time :
    busy.resetting = false ∧ allFaces.any busy.lapsing = true ∧
      ({ busy with autosnap := true, autoCount := 59 } : State).snapshotDue = true ∧
      (after .scanTimerExpiry { busy with
        zones := State.reset.zones.modify 0 (fun z => { z with config := { z.config with naming := ⟨some 1, none⟩ } }) }).scan ≠ none ∧
      (busy.sensors.get 1).health ≠ .unused ∧ busy.scan = none := by decide +kernel

/-- FrameOnTheChain, WindowsAndGaps, ReplyByteByByteIsValid, OtherBytesInTheWindow: a slot sending, one listening, and replies that
fit. -/
theorem test_witness_chain :
    busy.cycle = some ⟨[], openWindow 12 (.level .w12 1310 none) 0 0, []⟩ ∧
      (openWindow 12 (.level .w12 1310 none) 0 0).attempt = .listening 2 0 false none ∧
      ([] : List AttemptOutcome).length + 1 < (openWindow 12 .hold 0 0).permitted ∧
      (FaceReply.status ⟨⟨65535, .w12⟩, ⟨true, true, true⟩, some 255, some 65535, some 0xFFFF#16⟩).fits = true ∧
      (FaceReply.identity ⟨.w8, false, 255, 65535⟩).fits = true ∧ State.reset.cycle = none := by decide +kernel

/-- ReplyByteByByteIsValid and OtherBytesInTheWindow: a window that has run out while a WAIT, a reply with its spare bits set or a bad kind
was arriving, the last byte still to come; and the WAIT's end with extension 0 and 3. -/
theorem test_witness_arriving :
    let s (extension : Nat) (taken : List Byte) : State :=
      { busy with cycle := some ⟨[], { openWindow 12 .hold extension 0 with attempt := .listening 2 0 true (some taken) }, []⟩ }
    stillToCome (some [12#8, 0x83#8, 0xF9#8]) (chainFrame 12#8 [0x83#8]) [0x89#8] ∧
      stillToCome (some [12#8]) [0x5C#8, 12#8, 0x84#8] [0x84#8] ∧
      stillToCome none (chainFrame 12#8 [0x83#8]) (chainFrame 12#8 [0x83#8]) ∧
      stillToCome (some [12#8, 0x82#8]) (chainFrame 12#8 ((FaceReply.identity ⟨.w12, true, 24, 4095⟩).body 0xFF#8))
        ([0xFF#8, 24#8, 0x0F#8, 0xFF#8] ++ crcBytes (crcOf [12#8, 0x82#8, 0xFF#8, 24#8, 0x0F#8, 0xFF#8])) ∧
      stillToCome (some [12#8]) [0x5C#8, 12#8, 0x83#8, 0#8, 0#8] [0x83#8, 0#8, 0#8] ∧
      [0#8, 0#8] ≠ crcBytes (crcOf [12#8, 0x83#8]) ∧
      ((after (.chainByteReceived 0x89#8) (s 0 [12#8, 0x83#8, 0xF9#8])).cycle.map (fun c => c.slot.outcomes)) = some [.silent] ∧
      ((after (.chainByteReceived 0x89#8) (s 3 [12#8, 0x83#8, 0xF9#8])).cycle.map (fun c => c.slot.attempt))
        = some (.listening 2 1 false none) := by decide +kernel

/-- StagesDToG and StageC: the compensation's conditions met, at the ends of the ranges, and each not met. -/
theorem test_witness_stages :
    let s := withFace 12 (fun f => { f with dyn := { f.dyn with stringsOut := some 2, capability := some ⟨.w12, true, 64⟩ } }) busy
    (s.faces.get 12).dyn.capability = some ⟨.w12, true, 64⟩ ∧ (s.faces.get 12).dyn.stringsOut = some 2 ∧
      2 ≤ (s.zones.get (s.faces.get 12).config.zone).config.dmax ∧ kindIn (s.faces.get 12).dyn.asserted .strings = false ∧
      (s.faces.get 12).dyn.patternStep ≤ 7 ∧ (busy.faces.get 12).dyn.stringsOut = none ∧
      (State.reset.faces.get 0).dyn.capability = none ∧ busy.dayClock = none := by decide +kernel

/-- DarkFaces: a face in CUTOFF, and an ACTIVE face under a BLANK claim in HOLD. -/
theorem test_witness_dark :
    let s := (withFace 12 (litFace 5) State.reset).setClaim 12 (some ⟨.blank, 0⟩)
    (cutOff.faces.get 12).dyn.state = .cutoff ∧ cutOff.mode ≠ .halted ∧ 0 < (cutOff.faces.get 12).config.fullScale ∧
      (s.faces.get 12).dyn.state = .active ∧ (s.claims.get 12).map Claim.mode = some .blank ∧ s.mode = .hold := by decide +kernel

/-- ObservationRules: a STATUS from an ACTIVE face, and a report that is none. -/
theorem test_witness_observations :
    (busy.faces.get 12).dyn.state = .active ∧ (FaceDynamic.cleared .joining).state ≠ .active ∧
      (FaceDynamic.cleared .joining).state ≠ .cutoff := by decide +kernel

/-- FilterStep: factors at the ends of their range, a sample below and one above. -/
theorem test_witness_filter : (1 ≤ 16 ∧ 16 ≤ 16) ∧ (1 ≤ 1 ∧ 1 ≤ 16) ∧ (5 : Nat) < 6 := by decide

/-! The invariants, in a state that is not the reset state and whose next step changes it. -/

theorem test_busy_steps : ∃ t, step busy = .next t ∧ t ≠ busy := ⟨after .replyWindowExpiry { busy with pending := [] }, rfl, by decide +kernel⟩

theorem test_busy_queue_curves_claims : QueueInv busy ∧ CurveInv busy ∧ ClaimInv busy := by
  refine ⟨?_, ?_, ?_⟩ <;> decide +kernel

theorem test_busy_chain : ChainInv busy := by
  refine ⟨?_, ?_, ?_, ?_⟩ <;> decide +kernel

theorem test_busy_cutoffs_levels : CutoffInv busy ∧ LevelInv busy ∧ CutoffInv cutOff := by
  refine ⟨?_, ?_, ?_⟩ <;> decide +kernel

theorem test_busy_ranges_sensors : CountInv busy ∧ SettingInv busy ∧ SensorInv busy := by
  refine ⟨?_, ?_, ?_⟩ <;> decide +kernel

end Sys2Proof.Tests
end

section
/-! The chain's invariant under cycle starts, slot starts, attempts and replies (O55). `ChainLive` is what `ChainInv` says of a part
that is not in a reset; `SameChain` is agreement in the fields that it reads, which the footprints of Laws/Ops.lean give. -/

namespace Sys2Proof.Machine

/-! ### The chain's invariant of a part that is not in a reset -/

/-- `t` agrees with `s` in everything that `ChainInv` reads of a part that is not in a reset. -/
structure SameChain (s t : State) : Prop where
  mode : t.mode = s.mode
  resetLine : t.resetLine = s.resetLine
  scanTimer : t.scanTimer = s.scanTimer
  cycleTimer : t.cycleTimer = s.cycleTimer
  overrunWaiting : t.overrunWaiting = s.overrunWaiting
  cycle : t.cycle = s.cycle
  retries : t.retries = s.retries
  span : t.span = s.span

/-- What every part that is not in a reset shares, whatever its mode and its cycle. -/
structure Awake (s : State) : Prop where
  cause : s.resetLine.cause = none
  pin : s.resetLine.pinLow = false
  supply : s.resetLine.supply = .working
  retries : s.retries ≤ 2
  scanTimer : s.scanTimer ≠ none

/-- What `ChainInv` says of a part that is not in a reset. -/
structure ChainLive (s : State) : Prop extends Awake s where
  cycle : CycleInv s
  halted : s.mode = .halted → s.cycle = none ∧ s.cycleTimer = none
  halting : s.mode = .halting → s.cycle ≠ none
  overrun : s.overrunWaiting = true → s.cycle ≠ none ∧ s.cycleTimer = none
  timer : s.mode ≠ .halted → s.overrunWaiting = false → s.cycleTimer ≠ none

theorem resetting_eq_false {s : State} : s.resetting = false ↔ s.resetLine.cause = none := by
  simp [State.resetting]

theorem ChainLive.chainInv {s : State} (h : ChainLive s) : ChainInv s := by
  have hr : s.resetting = false := resetting_eq_false.mpr h.cause
  refine ⟨h.retries, h.cycle, ⟨?_, ?_⟩, h.halted, fun hm _ => h.halting hm, h.overrun, fun _ => h.timer, fun _ => h.scanTimer⟩
  · simp [hr, h.pin, h.supply]
  · simp [hr]

theorem ChainInv.live {s : State} (h : ChainInv s) (hr : s.resetting = false) : ChainLive s := by
  obtain ⟨hretries, hcycle, ⟨hline, _⟩, hhalted, hhalting, hover, htimer, hscan⟩ := h
  simp only [hr, Bool.false_eq_true, false_iff, not_or, Bool.not_eq_true, ne_eq, not_not] at hline
  exact ⟨⟨resetting_eq_false.mp hr, hline.1, hline.2, hretries, hscan hr⟩, hcycle, hhalted, fun hm => hhalting hm hr, hover,
    htimer hr⟩

/-- A part with a cycle in progress is not in a reset. -/
theorem ChainInv.live_of_cycle {s : State} {c : Cycle} (h : ChainInv s) (hc : s.cycle = some c) : ChainLive s := by
  obtain ⟨_, _, ⟨_, hsilent⟩, _⟩ := id h
  refine h.live (Bool.eq_false_iff.mpr fun hr => ?_)
  rw [(hsilent hr).1] at hc
  cases hc

theorem ChainLive.congr {s t : State} (h : ChainLive s) (e : SameChain s t) : ChainLive t where
  cause := by rw [e.resetLine]; exact h.cause
  pin := by rw [e.resetLine]; exact h.pin
  supply := by rw [e.resetLine]; exact h.supply
  retries := by rw [e.retries]; exact h.retries
  cycle := by unfold CycleInv; rw [e.cycle, e.span]; exact h.cycle
  halted := by rw [e.mode, e.cycle, e.cycleTimer]; exact h.halted
  halting := by rw [e.mode, e.cycle]; exact h.halting
  overrun := by rw [e.overrunWaiting, e.cycle, e.cycleTimer]; exact h.overrun
  timer := by rw [e.mode, e.overrunWaiting, e.cycleTimer]; exact h.timer
  scanTimer := by rw [e.scanTimer]; exact h.scanTimer

theorem SameChain.refl (s : State) : SameChain s s := by constructor <;> rfl

theorem SameChain.trans {s t u : State} (h : SameChain s t) (k : SameChain t u) : SameChain s u :=
  ⟨k.mode.trans h.mode, k.resetLine.trans h.resetLine, k.scanTimer.trans h.scanTimer, k.cycleTimer.trans h.cycleTimer,
    k.overrunWaiting.trans h.overrunWaiting, k.cycle.trans h.cycle, k.retries.trans h.retries, k.span.trans h.span⟩

theorem OnlyHazard.sameChain {s t : State} : OnlyHazard s t → SameChain s t := by
  rintro ⟨_, _, _, _, _, rfl⟩; constructor <;> rfl
theorem OnlyFaces.sameChain {s t : State} (h : OnlyFaces s t) : SameChain s t := h.hazard.sameChain
theorem OnlyNotices.sameChain {s t : State} (h : OnlyNotices s t) : SameChain s t := h.faces.sameChain
theorem OnlyScan.sameChain {s t : State} : OnlyScan s t → SameChain s t := by
  rintro ⟨_, _, _, _, _, _, _, rfl⟩; constructor <;> rfl

theorem setPort_sameChain (s : State) (l : Link) (p : Port) : SameChain s (s.setPort l p) := by
  cases l <;> constructor <;> rfl

/-- A change made face by face agrees in what the chain's invariant reads when each single change does. -/
theorem eachFace_sameChain {f : FaceNo → State → State} (h : ∀ i t, SameChain t (f i t)) (s : State) :
    SameChain s (s.eachFace f) :=
  eachFace_keeps (P := SameChain s) (fun i t ht => ht.trans (h i t)) s (.refl s)

/-! ### Slot lists -/

/-- A slot list below the span that rises strictly (R3, R20). -/
def GoodList (n : Span) (l : List FaceNo) : Prop :=
  (∀ i ∈ l, i.val < n.size) ∧ l.Pairwise (fun i j => i.val < j.val)

theorem slotList_good (s : State) : GoodList s.span s.slotList := by
  constructor
  · intro i hi
    have hcovers := (List.mem_filter.mp hi).2
    simp only [Span.covers, Bool.and_eq_true, decide_eq_true_eq] at hcovers
    exact hcovers.1
  · exact (List.pairwise_lt_finRange 32).filter _

/-- A slot at its start has all its attempts left (R12). -/
theorem openSlot_inv {s : State} (h : s.retries ≤ 2) (i : FaceNo) : SlotInv (s.openSlot i).2 := by
  obtain ⟨_, hpermitted, houtcomes, hattempt⟩ := openSlot_slot s i
  refine ⟨?_, ?_, ?_, ?_, ?_⟩
  · rw [hpermitted, houtcomes]; simp
  · rw [hpermitted]; omega
  · rw [houtcomes]; simp
  · rw [hattempt]; simp [Attempt.waits]
  · rw [hattempt]; rfl

/-- The cycle of a slot start has a good slot list when the list it is started on is good. -/
theorem slotStart_cycleInv {s : State} {served todo : List FaceNo} {i : FaceNo} (h : s.retries ≤ 2)
    (hl : GoodList s.span (served ++ i :: todo)) : CycleInv (s.slotStart served i todo) := by
  obtain ⟨f, g, e⟩ := slotStart_spec s served i todo
  obtain ⟨hface, _⟩ := openSlot_slot s i
  rw [e]
  rintro c ⟨⟩
  dsimp only
  rw [hface]
  exact ⟨hl.1, hl.2, openSlot_inv h i⟩

/-! ### Cycle starts, cycle ends and slot ends -/

/-- What a cycle start needs so that it leaves the chain in agreement. -/
structure CanStart (s : State) : Prop extends Awake s where
  notHalted : s.mode ≠ .halted
  notHalting : s.mode ≠ .halting
  overrun : s.overrunWaiting = false

/-- R2: a cycle start leaves the timer running and a cycle on a good slot list, or none. -/
theorem CanStart.cycleStart {s : State} (h : CanStart s) : ChainLive s.cycleStart := by
  obtain ⟨f, q, k, o, hl⟩ := latchCycle_spec s
  have hspan : s.latchCycle.span = s.span := by rw [hl]
  have hretries : s.latchCycle.retries = s.retries := by rw [hl]
  have hcycle : CycleInv s.cycleStart := by
    have hgood := slotList_good s.latchCycle
    obtain ⟨_, _, _, _, _, y, e, hy⟩ := cycleStart_spec s h.notHalting
    rcases hy with ⟨rfl, _⟩ | ⟨i, todo, hlist, rfl⟩
    · rw [e]; rintro _ ⟨⟩
    · have hstart : s.cycleStart = s.latchCycle.slotStart [] i todo := by
        unfold State.cycleStart State.beginCycle; rw [hlist]
      rw [hstart]
      exact slotStart_cycleInv (by rw [hretries]; exact h.retries) (by rw [List.nil_append, ← hlist]; exact hgood)
  obtain ⟨_, _, _, _, _, y, e, _⟩ := cycleStart_spec s h.notHalting
  rw [e] at hcycle ⊢
  exact
    { cause := h.cause, pin := h.pin, supply := h.supply, retries := h.retries, cycle := hcycle
      halted := fun hm => absurd hm h.notHalted
      halting := fun hm => absurd hm h.notHalting
      overrun := fun ho => absurd (h.overrun.symm.trans ho) Bool.false_ne_true
      timer := fun _ _ => Option.some_ne_none _
      scanTimer := h.scanTimer }

/-- R159: with no cycle left the completion of a halt leaves the chain in agreement. -/
theorem Awake.completeHalt {s : State} (h : Awake s) (hc : s.cycle = none) : ChainLive s.completeHalt := by
  refine ChainLive.congr ?_ (completeHalt_spec s).sameChain
  exact
    { cause := h.cause, pin := h.pin, supply := h.supply, retries := h.retries, scanTimer := h.scanTimer
      cycle := by unfold CycleInv; dsimp only; rw [hc]; rintro _ ⟨⟩
      halted := fun _ => ⟨hc, rfl⟩
      halting := by rintro ⟨⟩
      overrun := by rintro ⟨⟩
      timer := fun hm => absurd rfl hm }

theorem ChainLive.cycleEnd {s : State} (h : ChainLive s) (hc : s.cycle ≠ none) : ChainLive s.cycleEnd := by
  have hnot : s.mode ≠ .halted := fun hm => hc (h.halted hm).1
  unfold State.cycleEnd
  dsimp only
  split
  · exact Awake.completeHalt ⟨h.cause, h.pin, h.supply, h.retries, h.scanTimer⟩ rfl
  · rename_i hm
    split
    · exact CanStart.cycleStart ⟨⟨h.cause, h.pin, h.supply, h.retries, h.scanTimer⟩, hnot, hm, rfl⟩
    · rename_i ho
      exact
        { cause := h.cause, pin := h.pin, supply := h.supply, retries := h.retries
          cycle := by rintro _ ⟨⟩
          halted := fun hm' => absurd hm' hnot
          halting := fun hm' => absurd hm' hm
          overrun := by rintro ⟨⟩
          timer := fun _ _ => h.timer hnot (by simpa using ho)
          scanTimer := h.scanTimer }

/-- A cycle in progress replaced by another. -/
theorem ChainLive.withCycle {s t : State} {c : Cycle} (h : ChainLive s) (hc : s.cycle ≠ none)
    (e : SameChain { s with cycle := some c } t) (hi : CycleInv t) : ChainLive t := by
  have hi' : CycleInv { s with cycle := some c } := by
    unfold CycleInv at hi ⊢; rw [e.cycle, e.span] at hi; exact hi
  refine ChainLive.congr ?_ e
  exact
    { cause := h.cause, pin := h.pin, supply := h.supply, retries := h.retries, cycle := hi'
      halted := fun hm => absurd (h.halted hm).1 hc
      halting := fun _ => Option.some_ne_none _
      overrun := fun ho => ⟨Option.some_ne_none _, (h.overrun ho).2⟩
      timer := h.timer
      scanTimer := h.scanTimer }

theorem ChainLive.nextSlot {s : State} {c : Cycle} (h : ChainLive s) (hc : s.cycle ≠ none)
    (hl : GoodList s.span (c.served ++ c.slot.face :: c.todo)) : ChainLive (s.nextSlot c) := by
  unfold State.nextSlot
  split
  · exact h.cycleEnd hc
  · rename_i i rest htodo
    have hi : CycleInv (s.slotStart (c.served ++ [c.slot.face]) i rest) :=
      slotStart_cycleInv h.retries (by rw [htodo] at hl; simpa using hl)
    obtain ⟨f, g, e⟩ := slotStart_spec s (c.served ++ [c.slot.face]) i rest
    exact h.withCycle hc (c := ⟨c.served ++ [c.slot.face], (s.openSlot i).2, rest⟩)
      (by rw [e]; constructor <;> rfl) hi

theorem ChainLive.slotEnd {s : State} {c : Cycle} (h : ChainLive s) (hc : s.cycle ≠ none)
    (hl : GoodList s.span (c.served ++ c.slot.face :: c.todo)) (reply : Option FaceReply) : ChainLive (s.slotEnd c reply) := by
  unfold State.slotEnd
  dsimp only
  have hcount : SameChain s (if reply.isNone then s.countMissed c.slot.face else s) := by
    split
    · exact (setFaceDyn_only _ _ _).sameChain
    · exact .refl s
  have hsame := hcount.trans (faultMonitor_only _ (c.slot.report reply)).sameChain
  refine (h.congr hsame).nextSlot ?_ ?_
  · rw [hsame.cycle]; exact hc
  · rw [hsame.span]; exact hl

/-! ### Attempts -/

theorem ChainLive.goodList {s : State} {c : Cycle} (h : ChainLive s) (hc : s.cycle = some c) :
    GoodList s.span (c.served ++ c.slot.face :: c.todo) := by
  obtain ⟨hbelow, hrises, _⟩ := h.cycle c hc
  exact ⟨hbelow, hrises⟩

theorem ChainLive.slotInv {s : State} {c : Cycle} (h : ChainLive s) (hc : s.cycle = some c) : SlotInv c.slot := by
  obtain ⟨_, _, hslot⟩ := h.cycle c hc
  exact hslot

/-- The slot in hand replaced by one of the same face. -/
theorem ChainLive.withSlot {s t : State} {c : Cycle} {slot : Slot} (h : ChainLive s) (hc : s.cycle = some c)
    (hf : slot.face = c.slot.face) (hs : SlotInv slot) (e : SameChain { s with cycle := some { c with slot := slot } } t) :
    ChainLive t := by
  have hl := h.goodList hc
  refine h.withCycle (by rw [hc]; exact Option.some_ne_none _) e ?_
  unfold CycleInv
  rw [e.cycle, e.span]
  rintro _ ⟨⟩
  dsimp only
  rw [hf]
  exact ⟨hl.1, hl.2, hs⟩

/-- The attempt under way replaced by one that has honoured at most 8 WAITs and whose window has run out only in a reply. -/
theorem ChainLive.withAttempt {s : State} {c : Cycle} {a : Attempt} (h : ChainLive s) (hc : s.cycle = some c)
    (hw : a.waits ≤ 8) (ha : a.alive = true) : ChainLive { s with cycle := some (c.withAttempt a) } := by
  obtain ⟨hleft, hthree, hvalid, _, _⟩ := h.slotInv hc
  exact h.withSlot (slot := { c.slot with attempt := a }) hc rfl ⟨hleft, hthree, hvalid, hw, ha⟩ (.refl _)

theorem ChainLive.attemptValid {s : State} {c : Cycle} (h : ChainLive s) (hc : s.cycle = some c) (reply : FaceReply) :
    ChainLive (s.attemptValid c reply) :=
  have hl : GoodList s.span (c.served ++ c.slot.face :: c.todo) := h.goodList hc
  h.slotEnd (c := c.addOutcome .valid) (by rw [hc]; exact Option.some_ne_none _) hl _

theorem ChainLive.attemptFailed {s : State} {c : Cycle} (h : ChainLive s) (hc : s.cycle = some c) {o : AttemptOutcome}
    (ho : o ≠ .valid) : ChainLive (s.attemptFailed c o) := by
  have hsame : SameChain s (if o = .corrupt then s.countCorrupt c.slot.face else s) := by
    split
    · exact (setFaceDyn_only _ _ _).sameChain
    · exact .refl s
  have hcount := h.congr hsame
  have hc' := hsame.cycle.trans hc
  obtain ⟨_, hthree, hvalid, _, _⟩ := h.slotInv hc
  unfold State.attemptFailed
  dsimp only
  split
  · rename_i hleft
    refine hcount.withSlot (slot := { (c.addOutcome o).slot with attempt := .sending }) hc' rfl
      ⟨hleft, hthree, ?_, Nat.zero_le 8, rfl⟩ (by constructor <;> rfl)
    intro p hp
    rcases List.mem_append.mp hp with hp | hp
    · exact hvalid p hp
    · rw [List.mem_singleton.mp hp]; exact ho
  · have hl := hcount.goodList hc'
    exact hcount.slotEnd (c := c.addOutcome o) (by rw [hc']; exact Option.some_ne_none _) hl _

/-- The WAITs honoured so far, and a window that has run out only while a reply arrives. -/
theorem ChainLive.listening {s : State} {c : Cycle} {w n : Nat} {e : Bool} {r : Option (List Byte)} (h : ChainLive s)
    (hc : s.cycle = some c) (ha : c.slot.attempt = .listening w n e r) : n ≤ 8 ∧ (Attempt.listening w n e r).alive = true := by
  obtain ⟨_, _, _, hwaits, halive⟩ := h.slotInv hc
  rw [ha] at hwaits halive
  exact ⟨hwaits, halive⟩

theorem ChainLive.takeWait {s : State} {c : Cycle} {w n : Nat} {e : Bool} (h : ChainLive s) (hc : s.cycle = some c)
    (hn : n ≤ 8) : ChainLive (s.takeWait c w n e) := by
  unfold State.takeWait
  split
  · split
    · rename_i hlt; exact h.withAttempt hc (show n + 1 ≤ 8 from hlt) rfl
    · exact h.attemptFailed hc (by decide)
  · split
    · exact h.attemptFailed hc (by decide)
    · exact h.withAttempt hc hn rfl

theorem ChainLive.replyByte {s : State} {c : Cycle} {w n : Nat} {e : Bool} (h : ChainLive s) (hc : s.cycle = some c)
    (hn : n ≤ 8) (bytes : List Byte) : ChainLive (s.replyByte c w n e bytes) := by
  unfold State.replyByte
  split
  · exact h.withAttempt hc hn (by cases e <;> rfl)
  · exact h.attemptFailed hc (by decide)
  · split
    · exact h.attemptValid hc _
    · exact h.takeWait hc hn
    · exact h.attemptFailed hc (by decide)

end Sys2Proof.Machine
end

section
/-! The chain's invariant under every command (O55): the requests by their effects, the events one by one. -/

namespace Sys2Proof.Machine

/-! ### The requests -/

theorem Awake.congr {s t : State} (h : Awake s) (hl : t.resetLine = s.resetLine) (hr : t.retries ≤ 2)
    (hs : t.scanTimer = s.scanTimer) : Awake t :=
  ⟨by rw [hl]; exact h.cause, by rw [hl]; exact h.pin, by rw [hl]; exact h.supply, hr, by rw [hs]; exact h.scanTimer⟩

/-- A change of mode between modes that are not HALTED, kept out of HALTING where no cycle is in progress. -/
theorem ChainLive.changeMode {s : State} {m : Mode} (h : ChainLive s) (hs : s.mode ≠ .halted) (hm : m ≠ .halted)
    (hc : m = .halting → s.cycle ≠ none) : ChainLive (s.changeMode m) := by
  refine ChainLive.congr ?_ (changeMode_only s m).sameChain
  exact
    { cause := h.cause, pin := h.pin, supply := h.supply, retries := h.retries, scanTimer := h.scanTimer, cycle := h.cycle
      halted := fun e => absurd e hm
      halting := hc
      overrun := h.overrun
      timer := fun _ => h.timer hs }

/-- R159: HALT completes at once when no cycle is in progress. -/
theorem ChainLive.takeHalt {s : State} (h : ChainLive s) : ChainLive s.takeHalt := by
  unfold State.takeHalt
  have hstart : s.mode ≠ .halted →
      ChainLive (let s1 := (if s.mode = .hold then s.leaveHold else s).changeMode .halting
        if s1.cycle.isNone then s1.completeHalt else s1) := by
    intro hm
    dsimp only
    have hsame : SameChain s (if s.mode = .hold then s.leaveHold else s) := by
      split
      · exact (leaveHold_only s).sameChain
      · exact .refl s
    generalize (if s.mode = .hold then s.leaveHold else s) = u at hsame ⊢
    have hu := h.congr hsame
    have hmode := (changeMode_only u .halting).sameChain
    split
    · rename_i hnone
      exact (hu.toAwake.congr hmode.resetLine (by rw [hmode.retries]; exact hu.retries) hmode.scanTimer).completeHalt
        (by simpa using hnone)
    · rename_i hsome
      have hcycle : u.cycle ≠ none := by rw [hmode.cycle] at hsome; simpa using hsome
      exact hu.changeMode (by rw [hsame.mode]; exact hm) (by decide) (fun _ => hcycle)
  split
  · exact h
  · exact h
  · rename_i hm; exact hstart (by rw [hm]; decide)
  · rename_i hm; exact hstart (by rw [hm]; decide)

/-- R160: RUN in HALTED starts a cycle; in HALTING it takes the halt back. -/
theorem ChainLive.takeRun {s : State} (h : ChainLive s) : ChainLive s.takeRun := by
  unfold State.takeRun
  split
  · rename_i hm
    have hmode := (changeMode_only s .running).sameChain
    have hover : s.overrunWaiting = false :=
      Bool.eq_false_iff.mpr fun ho => (h.overrun ho).1 (h.halted hm).1
    exact CanStart.cycleStart
      ⟨h.toAwake.congr hmode.resetLine (by rw [hmode.retries]; exact h.retries) hmode.scanTimer,
        by rw [hmode.mode]; simp, by rw [hmode.mode]; simp,
        by rw [hmode.overrunWaiting]; exact hover⟩
  · rename_i hm
    exact h.changeMode (by rw [hm]; decide) (by decide) (fun e => by cases e)
  · exact h
  · exact h

theorem takeUpFace_sameChain (i : FaceNo) (s : State) : SameChain s (State.takeUpFace i s) := by
  unfold State.takeUpFace
  dsimp only
  split
  · exact (setFaceDyn_only _ _ _).sameChain
  · exact .refl s

/-- R161: RESUME, taken in HOLD. -/
theorem ChainLive.takeResume {s : State} (h : ChainLive s) (hm : s.mode = .hold) : ChainLive s.takeResume := by
  have hsame := (leaveHold_only s).sameChain.trans (eachFace_sameChain takeUpFace_sameChain s.leaveHold)
  exact (h.congr hsame).changeMode (by rw [hsame.mode, hm]; decide) (by decide) (fun e => by cases e)

theorem losePlace_sameChain (n : Span) (i : FaceNo) (s : State) : SameChain s (State.losePlace n i s) := by
  unfold State.losePlace
  split
  · exact .refl s
  · exact SameChain.trans (t := s.setFaceConfig i _) (by constructor <;> rfl) (goOffline_only _ i).sameChain

/-- R21: the span changes in HALTED only, where no cycle is in progress. -/
theorem ChainLive.changeSpan {s : State} (h : ChainLive s) (hm : s.mode = .halted) (n : Span) : ChainLive (s.changeSpan n) := by
  have hsame : SameChain s (if n.size < s.span.size then s.eachFace (State.losePlace n) else s) := by
    split
    · exact eachFace_sameChain (losePlace_sameChain n) s
    · exact .refl s
  have hu := h.congr hsame
  unfold State.changeSpan
  generalize (if n.size < s.span.size then s.eachFace (State.losePlace n) else s) = u at hsame hu ⊢
  have hidle := hu.halted (by rw [hsame.mode]; exact hm)
  exact
    { cause := hu.cause, pin := hu.pin, supply := hu.supply, retries := hu.retries, scanTimer := hu.scanTimer
      cycle := by unfold CycleInv; dsimp only; rw [hidle.1]; rintro _ ⟨⟩
      halted := hu.halted, halting := hu.halting, overrun := hu.overrun, timer := hu.timer }

/-- R12: a retry count stored leaves the slot in hand as it is. -/
theorem ChainLive.setRetries {s : State} (h : ChainLive s) (v : Nat) : ChainLive { s with retries := clamp 0 2 v } where
  cause := h.cause
  pin := h.pin
  supply := h.supply
  retries := clamp_le 0 2 v (by decide)
  scanTimer := h.scanTimer
  cycle := h.cycle
  halted := h.halted
  halting := h.halting
  overrun := h.overrun
  timer := h.timer

theorem claimFace_sameChain (members : FaceSet) (c : Claim) (i : FaceNo) (s : State) :
    SameChain s (State.claimFace members c i s) := by
  have hset : SameChain s (s.setClaim i (some c)) := by constructor <;> rfl
  unfold State.claimFace
  split
  · split
    · exact hset
    · exact hset.trans (post_only _ _).sameChain
  · exact .refl s

theorem releaseFace_sameChain (members : FaceSet) (i : FaceNo) (s : State) : SameChain s (State.releaseFace members i s) := by
  have hset : SameChain s (s.setClaim i none) := by constructor <;> rfl
  unfold State.releaseFace
  split
  · exact hset.trans (post_only _ _).sameChain
  · exact .refl s

theorem setEnabled_sameChain (members : FaceSet) (flag : Bool) (i : FaceNo) (s : State) :
    SameChain s (State.setEnabled members flag i s) := by
  unfold State.setEnabled; split <;> constructor <;> rfl

theorem conditionFace_sameChain (members : FaceSet) (c : Conditioning) (i : FaceNo) (s : State) :
    SameChain s (State.conditionFace members c i s) := by
  unfold State.conditionFace; split <;> constructor <;> rfl

theorem setAutosnap_sameChain (s : State) (on : Bool) : SameChain s (s.setAutosnap on) := by
  unfold State.setAutosnap; split <;> constructor <;> rfl

theorem ChainLive.requestEffect {s t : State} (h : ChainLive s) (e : RequestEffect s t) : ChainLive t := by
  cases e with
  | nothing => exact h
  | halt => exact h.takeHalt
  | run _ => exact h.takeRun
  | resume hm => exact h.takeResume hm
  | retries v => exact h.setRetries v
  | span n hm _ => exact h.changeSpan hm n
  | enabled members flag => exact h.congr (eachFace_sameChain (setEnabled_sameChain members flag) s)
  | condition members c _ => exact h.congr (eachFace_sameChain (conditionFace_sameChain members c) s)
  | restore i _ _ => exact h.congr ((setFaceDyn_only s i _).sameChain.trans (post_only _ _).sameChain)
  | autosnap on => exact h.congr (setAutosnap_sameChain s on)
  | claim set mode hold _ => exact h.congr (eachFace_sameChain (claimFace_sameChain _ _) s)
  | release members => exact h.congr (eachFace_sameChain (releaseFace_sameChain members) s)
  | dayClock | curfew | scanPeriod | zone | period | curve | face | persist | snapshot | fetch | changes | holdoff | collect =>
    exact h.congr (by constructor <;> rfl)

theorem ChainLive.discardFrame {s : State} (h : ChainLive s) (l : Link) : ChainLive (s.discardFrame l) :=
  h.congr (setPort_sameChain s l _)

/-- A request taken on a link whose judgement has one of the requests' effects. -/
theorem ChainLive.takeRequest {s : State} (h : ChainLive s) (l : Link) (k tag : Byte) {j : State → Answer × State}
    (hj : RequestEffect s (j s).2) : ChainLive (s.takeRequest l k tag j) :=
  takeRequest_keeps (fun _ => h.requestEffect hj) (fun _ => h.discardFrame l)
    (fun u _ _ hu => hu.congr (setPort_sameChain u l _)) h

theorem ChainInv.takeRequest {s : State} (h : ChainInv s) (l : Link) (k tag : Byte) {j : State → Answer × State}
    (hj : RequestEffect s (j s).2) : ChainInv (s.takeRequest l k tag j) := by
  by_cases hr : s.resetting = true
  · rw [takeRequest_resetting hr]; exact h
  · exact ((h.live (by simpa using hr)).takeRequest l k tag hj).chainInv

/-! ### The link ports -/

theorem ChainLive.setReceiver {s : State} (h : ChainLive s) (l : Link) (r : Receiver) : ChainLive (s.setReceiver l r) :=
  h.congr (setPort_sameChain s l _)

theorem ChainLive.frameComplete {s : State} (h : ChainLive s) (l : Link) (bytes : List Byte) :
    ChainLive (s.frameComplete l bytes) := by
  have hwait := h.setReceiver l .waiting
  unfold State.frameComplete
  dsimp only
  split
  · split
    · exact hwait.takeRequest l _ _ (judgeFrame_effect l _ _ _)
    · exact hwait.discardFrame l
  · exact hwait.discardFrame l

theorem ChainLive.frameByte {s : State} (h : ChainLive s) (l : Link) (taken : List Byte) (b : Byte) :
    ChainLive (s.frameByte l taken b) := by
  unfold State.frameByte
  split
  · split
    · exact (h.setReceiver l .waiting).discardFrame l
    · exact h.setReceiver l _
  · split
    · exact h.setReceiver l _
    · exact h.frameComplete l _

theorem linkByteReceived_keeps_chain {s t : State} {l : Link} {b : Byte} {fe : Bool} (h : ChainInv s)
    (e : exec (.linkByteReceived l b fe) s = .next t) : ChainInv t := by
  cases e
  split
  · exact h
  · rename_i hr
    have hlive := h.live (by simpa using hr)
    refine ChainLive.chainInv ?_
    split
    · split
      · exact hlive.setReceiver l _
      · exact hlive
    · split
      · exact (hlive.setReceiver l .waiting).discardFrame l
      · exact hlive.frameByte l _ b

/-- R163: the links are silent while a reset is in progress. -/
theorem ChainInv.port_cleared {s : State} (h : ChainInv s) (hr : s.resetting = true) (l : Link) :
    s.port l = ⟨.waiting, none, 0⟩ := by
  obtain ⟨_, _, ⟨_, hsilent⟩, _⟩ := h
  obtain ⟨_, _, _, _, _, hcontrol, hauthority, _⟩ := hsilent hr
  cases l
  · exact hcontrol
  · exact hauthority

theorem linkFrameTimeout_keeps_chain {s t : State} {l : Link} (h : ChainInv s)
    (e : exec (.linkFrameTimeout l) s = .next t) : ChainInv t := by
  cases e
  split
  · exact h
  · rename_i hrec
    have hr : s.resetting = false :=
      Bool.eq_false_iff.mpr fun hr => by rw [h.port_cleared hr l] at hrec; cases hrec
    exact (((h.live hr).setReceiver l .waiting).discardFrame l).chainInv

/-! ### Resets -/

/-- R163: a reset in progress is silent, whatever the mode it began in. -/
theorem beginReset_chainInv {s : State} (cause : ResetCause) (hr : s.retries ≤ 2)
    (hl : s.resetLine.pinLow = true ∨ s.resetLine.supply ≠ .working) : ChainInv (s.beginReset cause) := by
  have hres : (s.beginReset cause).resetting = true := rfl
  refine ⟨hr, ?_, ⟨iff_of_true hres hl, fun _ => ⟨rfl, rfl, rfl, rfl, rfl, rfl, rfl, rfl, rfl⟩⟩, fun _ => ⟨rfl, rfl⟩,
    ?_, ?_, ?_, ?_⟩
  · rintro _ ⟨⟩
  · intro _ hno; rw [hres] at hno; cases hno
  · rintro ⟨⟩
  · intro hno; rw [hres] at hno; cases hno
  · intro hno; rw [hres] at hno; cases hno

/-- R165: a reset that completes leaves its first cycle started and the chain in agreement. -/
theorem finishReset_live {s : State} (cause : ResetCause) (straps : Straps) (hr : s.retries ≤ 2)
    (hp : s.resetLine.pinLow = false) (hs : s.resetLine.supply = .working) : ChainLive (s.finishReset cause straps) := by
  unfold State.finishReset
  have hkept : (if cause.cold then s.coldConfiguration (strapWidth straps) else s).resetLine = s.resetLine ∧
      (if cause.cold then s.coldConfiguration (strapWidth straps) else s).retries ≤ 2 := by
    split
    · exact ⟨rfl, Nat.le_succ 1⟩
    · exact ⟨rfl, hr⟩
  generalize (if cause.cold then s.coldConfiguration (strapWidth straps) else s) = u at hkept ⊢
  obtain ⟨hline, hretries⟩ := hkept
  have hmode : strapMode straps ≠ .halted ∧ strapMode straps ≠ .halting := by
    unfold strapMode; split <;> decide
  refine CanStart.cycleStart ⟨⟨?_, ?_, ?_, ?_, ?_⟩, ?_, ?_, ?_⟩
  · rw [post_resetLine]
  · rw [post_resetLine]; show u.resetLine.pinLow = false; rw [hline]; exact hp
  · rw [post_resetLine]; show u.resetLine.supply = .working; rw [hline]; exact hs
  · rw [post_retries]; exact hretries
  · rw [post_scanTimer]; exact Option.some_ne_none _
  · rw [post_mode]; exact hmode.1
  · rw [post_mode]; exact hmode.2
  · rw [post_overrunWaiting]; rfl

theorem tryFinish_chainInv {s : State} (straps : Straps) (hr : s.retries ≤ 2)
    (hw : ∀ c, s.resetLine.cause = some c → ¬(s.resetLine.pinLow = false ∧ s.resetLine.supply = .working) → ChainInv s)
    (hn : s.resetLine.cause = none → ChainInv s) : ChainInv (s.tryFinish straps) := by
  unfold State.tryFinish
  split
  · rename_i c hcause
    split
    · rename_i hline; exact (finishReset_live c straps hr hline.1 hline.2).chainInv
    · rename_i hline; exact hw c hcause hline
  · rename_i hcause; exact hn hcause

/-- The reset line's pin and supply replaced: the chain stays in agreement while the line still agrees with the reset in progress. -/
theorem ChainInv.withLine {s : State} {r : ResetLine} (h : ChainInv s) (hc : r.cause = s.resetLine.cause)
    (hl : r.cause.isSome = true ↔ r.pinLow = true ∨ r.supply ≠ .working) : ChainInv { s with resetLine := r } := by
  obtain ⟨hretries, hcycle, ⟨_, hsilent⟩, htimers⟩ := h
  have hres : State.resetting { s with resetLine := r } = s.resetting := by simp only [State.resetting, hc]
  refine ⟨hretries, hcycle, ⟨hl, ?_⟩, ?_⟩
  · rw [hres]; exact hsilent
  · unfold TimerInv; rw [hres]; exact htimers

theorem not_idle_line {p : Bool} {v : Supply} (h : ¬(p = false ∧ v = .working)) : p = true ∨ v ≠ .working := by
  cases p <;> simp_all

/-- A release of the pin or a recovery of the supply, which lets the reset in progress complete when no cause remains. -/
theorem ChainInv.release {s : State} {r : ResetLine} (h : ChainInv s) (straps : Straps) (hc : r.cause = s.resetLine.cause)
    (hp : r.pinLow = s.resetLine.pinLow ∨ r.pinLow = false) (hs : r.supply = s.resetLine.supply ∨ r.supply = .working) :
    ChainInv (State.tryFinish { s with resetLine := r } straps) := by
  obtain ⟨hretries, _, ⟨hline, _⟩, _⟩ := id h
  refine tryFinish_chainInv straps hretries (fun c hcause hno => h.withLine hc ?_) (fun hcause => h.withLine hc ?_)
  · exact iff_of_true (by rw [show r.cause = some c from hcause]; rfl) (not_idle_line hno)
  · have hcause : r.cause = none := hcause
    have hlive := h.live (resetting_eq_false.mpr (hc.symm.trans hcause))
    have hpin : r.pinLow = false := hp.elim (fun e => e.trans hlive.pin) id
    have hsupply : r.supply = .working := hs.elim (fun e => e.trans hlive.supply) id
    simp [hcause, hpin, hsupply]

theorem replySent_keeps_chain {s t : State} {l : Link} {straps : Straps} (h : ChainInv s)
    (e : exec (.replySent l straps) s = .next t) : ChainInv t := by
  cases e
  split
  · rename_i r hreply
    have hr : s.resetting = false :=
      Bool.eq_false_iff.mpr fun hr => by rw [h.port_cleared hr l] at hreply; cases hreply
    have hlive := (h.live hr).congr (setPort_sameChain s l { s.port l with reply := none })
    dsimp only
    split
    · refine tryFinish_chainInv straps hlive.retries (fun c _ hno => absurd ⟨hlive.pin, hlive.supply⟩ hno) ?_
      rintro ⟨⟩
    · exact hlive.chainInv
  · exact h

/-! ### The chain's events -/

theorem ChainLive.overrun_live {s : State} (h : ChainLive s) (hc : s.cycle ≠ none) : ChainLive s.overrun := by
  refine ChainLive.congr ?_ (post_only _ _).sameChain
  exact
    { cause := h.cause, pin := h.pin, supply := h.supply, retries := h.retries, scanTimer := h.scanTimer, cycle := h.cycle
      halted := fun hm => absurd (h.halted hm).1 hc
      halting := h.halting
      overrun := fun _ => ⟨hc, rfl⟩
      timer := by rintro _ ⟨⟩ }

theorem cycleTimerExpiry_keeps_chain {s t : State} (h : ChainInv s) (e : exec .cycleTimerExpiry s = .next t) : ChainInv t := by
  cases e
  split
  · exact h
  · rename_i hgo
    simp only [Bool.or_eq_true, not_or, Bool.not_eq_true] at hgo
    have hlive := h.live hgo.2
    refine ChainLive.chainInv ?_
    split
    · rename_i hsome
      exact hlive.overrun_live (Option.isSome_iff_ne_none.mp hsome)
    · rename_i hnone
      have hcycle : s.cycle = none := by simpa using hnone
      split
      · exact hlive
      · rename_i hm
        exact CanStart.cycleStart
          ⟨hlive.toAwake, hm, fun hh => hlive.halting hh hcycle, Bool.eq_false_iff.mpr fun ho => (hlive.overrun ho).1 hcycle⟩

theorem chainFrameSent_keeps_chain {s t : State} (h : ChainInv s) (e : exec .chainFrameSent s = .next t) : ChainInv t := by
  cases e
  split
  · rename_i c hc
    split
    · exact ((h.live_of_cycle hc).withAttempt (a := .listening _ _ _ _) hc (Nat.zero_le 8) rfl).chainInv
    · exact h
  · exact h

theorem replyWindowExpiry_keeps_chain {s t : State} (h : ChainInv s) (e : exec .replyWindowExpiry s = .next t) :
    ChainInv t := by
  cases e
  split
  · rename_i c hc
    have hlive := h.live_of_cycle hc
    split
    · exact (hlive.attemptFailed hc (by decide)).chainInv
    · rename_i hattempt
      exact (hlive.withAttempt (a := .listening _ _ _ _) hc (hlive.listening hc hattempt).1 rfl).chainInv
    · exact h
  · exact h

theorem chainByteReceived_keeps_chain {s t : State} {b : Byte} (h : ChainInv s)
    (e : exec (.chainByteReceived b) s = .next t) : ChainInv t := by
  cases e
  split
  · rename_i c hc
    have hlive := h.live_of_cycle hc
    split
    · exact h
    · rename_i w n ex hattempt
      split
      · exact (hlive.withAttempt (a := .listening _ _ _ _) hc (hlive.listening hc hattempt).1 (by cases ex <;> rfl)).chainInv
      · exact h
    · rename_i hattempt
      exact (hlive.replyByte hc (hlive.listening hc hattempt).1 _).chainInv
  · exact h

theorem chainReplyGapTimeout_keeps_chain {s t : State} (h : ChainInv s) (e : exec .chainReplyGapTimeout s = .next t) :
    ChainInv t := by
  cases e
  split
  · rename_i c hc
    split
    · exact ((h.live_of_cycle hc).attemptFailed hc (by decide)).chainInv
    · exact h
    · exact h
  · exact h

/-! ### Scans and seconds -/

theorem scanTimerExpiry_keeps_chain {s t : State} (h : ChainInv s) (e : exec .scanTimerExpiry s = .next t) : ChainInv t := by
  cases e
  split
  · exact h
  · rename_i hgo
    simp only [Bool.or_eq_true, not_or, Bool.not_eq_true] at hgo
    have hlive := h.live hgo.2
    refine ChainLive.chainInv (ChainLive.congr ?_ (startScan_only _).sameChain)
    exact
      { cause := hlive.cause, pin := hlive.pin, supply := hlive.supply, retries := hlive.retries
        scanTimer := Option.some_ne_none _
        cycle := hlive.cycle, halted := hlive.halted, halting := hlive.halting, overrun := hlive.overrun, timer := hlive.timer }

/-- A scan in progress says that the part is not in a reset. -/
theorem ChainInv.live_of_scan {s : State} {c : Scan} (h : ChainInv s) (hc : s.scan = some c) : ChainLive s := by
  obtain ⟨_, _, ⟨_, hsilent⟩, _⟩ := id h
  refine h.live (Bool.eq_false_iff.mpr fun hr => ?_)
  obtain ⟨_, _, _, hscan, _⟩ := hsilent hr
  rw [hscan] at hc
  cases hc

theorem ChainInv.endPoll {s : State} {c : Scan} (h : ChainInv s) (hc : s.scan = some c) (signals : List BusSignal)
    (reading : Option Nat) : ChainInv (s.endPoll c signals reading) :=
  ((h.live_of_scan hc).congr (endPoll_only s c signals reading).sameChain).chainInv

theorem sensorPollEnd_keeps_chain {s t : State} {r : PollEnd} (h : ChainInv s) (e : exec (.sensorPollEnd r) s = .next t) :
    ChainInv t := by
  cases e
  split
  · rename_i c hc
    split
    · exact h.endPoll hc _ _
    · exact h.endPoll hc _ _
  · exact h

theorem sensorPollTimeout_keeps_chain {s t : State} (h : ChainInv s) (e : exec .sensorPollTimeout s = .next t) :
    ChainInv t := by
  cases e
  split
  · rename_i c hc; exact h.endPoll hc _ _
  · exact h

theorem lapseClaim_sameChain (i : FaceNo) (s : State) : SameChain s (State.lapseClaim i s) := by
  have hpost := (post_only (s.setClaim i none) (.owner i .operator true)).sameChain
  exact SameChain.trans (t := s.setClaim i none) (by constructor <;> rfl) (hpost.trans (by constructor <;> rfl))

theorem countClaim_sameChain (i : FaceNo) (s : State) : SameChain s (State.countClaim i s) := by
  unfold State.countClaim
  split
  · split
    · exact .refl s
    · split
      · exact lapseClaim_sameChain i s
      · constructor <;> rfl
  · exact .refl s

theorem autoSnapshotNow_sameChain (s : State) : SameChain s s.autoSnapshotNow :=
  SameChain.trans (t := State.takeSnapshot { s with autoCount := 0 }) (by constructor <;> rfl) (post_only _ _).sameChain

theorem bankSecond_sameChain (s : State) : SameChain s s.bankSecond := by
  unfold State.bankSecond
  split
  · split
    · exact autoSnapshotNow_sameChain s
    · constructor <;> rfl
  · exact .refl s

theorem claimsSecond_sameChain (s : State) : SameChain s s.claimsSecond := eachFace_sameChain countClaim_sameChain s

theorem claimsAndBankSecond_sameChain (s : State) : SameChain s s.claimsAndBankSecond := by
  unfold State.claimsAndBankSecond
  split
  · have hchoice : SameChain s { s with freeChoices := s.freeChoices + 1 } := by constructor <;> rfl
    dsimp only
    split
    · exact hchoice.trans ((bankSecond_sameChain _).trans (claimsSecond_sameChain _))
    · exact hchoice.trans ((claimsSecond_sameChain _).trans (bankSecond_sameChain _))
  · exact (claimsSecond_sameChain _).trans (bankSecond_sameChain _)

theorem oneSecondEvent_keeps_chain {s t : State} (h : ChainInv s) (e : exec .oneSecondEvent s = .next t) : ChainInv t := by
  cases e
  split
  · exact h
  · rename_i hr
    have hlive := h.live (by simpa using hr)
    refine ChainLive.chainInv (hlive.congr ?_)
    have htime : SameChain s { s with seconds := s.seconds + 1#16, dayClock := s.dayClock.map nextSecondOfDay } := by
      constructor <;> rfl
    exact (htime.trans (claimsAndBankSecond_sameChain _)).trans (by constructor <;> rfl)

theorem claimLapse_keeps_chain {s t : State} {i : FaceNo} (h : ChainInv s) (e : exec (.claimLapse i) s = .next t) :
    ChainInv t := by
  cases e
  split
  · split
    · rename_i hdue; exact ((h.live hdue.2).congr (lapseClaim_sameChain i s)).chainInv
    · exact h
  · exact h

theorem autoSnapshot_keeps_chain {s t : State} (h : ChainInv s) (e : exec .autoSnapshot s = .next t) : ChainInv t := by
  cases e
  split
  · rename_i hdue
    simp only [Bool.and_eq_true, Bool.not_eq_true'] at hdue
    exact ((h.live hdue.2).congr (autoSnapshotNow_sameChain s)).chainInv
  · exact h

theorem holdoffExpiry_keeps_chain {s t : State} (h : ChainInv s) (e : exec .holdoffExpiry s = .next t) : ChainInv t := by
  cases e
  split
  · obtain ⟨hretries, hcycle, ⟨hline, hsilent⟩, htimers⟩ := h
    refine ⟨hretries, hcycle, ⟨hline, fun hr => ?_⟩, htimers⟩
    obtain ⟨h1, h2, h3, h4, h5, h6, h7, h8, _⟩ := hsilent hr
    exact ⟨h1, h2, h3, h4, h5, h6, h7, h8, rfl⟩
  · exact h

/-! ### The pin and the supply -/

theorem resetPinLow_keeps_chain {s t : State} (h : ChainInv s) (e : exec .resetPinLow s = .next t) : ChainInv t := by
  obtain ⟨hretries, _⟩ := id h
  cases e
  split
  · exact h
  · exact beginReset_chainInv .pin hretries (.inl rfl)

theorem supplyDip_keeps_chain {s t : State} (h : ChainInv s) (e : exec .supplyDip s = .next t) : ChainInv t := by
  obtain ⟨hretries, _⟩ := id h
  cases e
  split
  · exact beginReset_chainInv .supplyDip hretries (.inr (by simp))
  · exact h

theorem supplyOff_keeps_chain {s t : State} (h : ChainInv s) (e : exec .supplyOff s = .next t) : ChainInv t := by
  obtain ⟨hretries, _⟩ := h
  cases e
  exact beginReset_chainInv .powerOn hretries (.inr (by simp))

theorem resetPinRelease_keeps_chain {s t : State} {straps : Straps} (h : ChainInv s)
    (e : exec (.resetPinRelease straps) s = .next t) : ChainInv t := by
  cases e
  exact h.release straps rfl (.inr rfl) (.inl rfl)

theorem supplyRecovery_keeps_chain {s t : State} {straps : Straps} (h : ChainInv s)
    (e : exec (.supplyRecovery straps) s = .next t) : ChainInv t := by
  cases e
  exact h.release straps rfl (.inl rfl) (.inr rfl)

/-! ### Every command, every step -/

theorem request_keeps_chain {i : Instr} {r : Request} {s t : State} (hi : i.request = some r) (h : ChainInv s)
    (e : exec i s = .next t) : ChainInv t := by
  rw [exec_request hi] at e
  cases e
  exact h.takeRequest _ _ _ (judgeKind_effect r.kind r.payload s)

theorem exec_keeps_chain (i : Instr) (s t : State) (h : ChainInv s) (e : exec i s = .next t) : ChainInv t := by
  cases i
  case linkByteReceived => exact linkByteReceived_keeps_chain h e
  case linkFrameTimeout => exact linkFrameTimeout_keeps_chain h e
  case replySent => exact replySent_keeps_chain h e
  case cycleTimerExpiry => exact cycleTimerExpiry_keeps_chain h e
  case chainFrameSent => exact chainFrameSent_keeps_chain h e
  case replyWindowExpiry => exact replyWindowExpiry_keeps_chain h e
  case chainByteReceived => exact chainByteReceived_keeps_chain h e
  case chainReplyGapTimeout => exact chainReplyGapTimeout_keeps_chain h e
  case scanTimerExpiry => exact scanTimerExpiry_keeps_chain h e
  case sensorPollEnd => exact sensorPollEnd_keeps_chain h e
  case sensorPollTimeout => exact sensorPollTimeout_keeps_chain h e
  case oneSecondEvent => exact oneSecondEvent_keeps_chain h e
  case claimLapse => exact claimLapse_keeps_chain h e
  case autoSnapshot => exact autoSnapshot_keeps_chain h e
  case holdoffExpiry => exact holdoffExpiry_keeps_chain h e
  case resetPinLow => exact resetPinLow_keeps_chain h e
  case resetPinRelease => exact resetPinRelease_keeps_chain h e
  case supplyDip => exact supplyDip_keeps_chain h e
  case supplyOff => exact supplyOff_keeps_chain h e
  case supplyRecovery => exact supplyRecovery_keeps_chain h e
  all_goals exact request_keeps_chain rfl h e

/-- Settles O55: every command keeps the chain's invariant, which does not read the queue of commands. -/
theorem stepKeepsChain : Obligations.StepKeepsChain := by
  unfold Obligations.StepKeepsChain
  intro s t h e
  exact step_keeps (P := ChainInv) (fun _ _ hs => hs) exec_keeps_chain h e

end Sys2Proof.Machine
end

section
/-! The cycle start as one equation (O36, O37): the enable latch, made face by face with a notice for each face that joins, is one
change of the face table followed by the notices in ascending order. -/

namespace Sys2Proof.Machine

/-! ### What a notice posted does not look at -/

/-- R149: which of its effects a notice posted has is settled by the seconds counter and the queue alone. -/
theorem post_uniform (s : State) (b : NoticeBody) :
    (∃ q, ∀ t : State, t.seconds = s.seconds → t.queue = s.queue → t.post b = { t with queue := q }) ∨
      (∃ f, b.face = some f ∧ ∀ t : State, t.seconds = s.seconds → t.queue = s.queue →
        t.post b = { t with changeSet := faceInsert t.changeSet f }) ∨
      ∀ t : State, t.seconds = s.seconds → t.queue = s.queue → t.post b = { t with otherLost := true } := by
  cases hreplace : replaceNotice ⟨b, s.seconds⟩ s.queue with
  | some q => exact .inl ⟨q, fun t hs hq => by simp only [State.post, hs, hq, hreplace]⟩
  | none =>
    by_cases hroom : s.queue.length < Config.queueDepth
    · exact .inl ⟨s.queue ++ [⟨b, s.seconds⟩], fun t hs hq => by simp only [State.post, hs, hq, hreplace, hroom, if_true]⟩
    · cases hface : b.face with
      | some f => exact .inr (.inl ⟨f, rfl, fun t hs hq => by simp only [State.post, hs, hq, hreplace, hroom, hface, if_false]⟩)
      | none => exact .inr (.inr fun t hs hq => by simp only [State.post, hs, hq, hreplace, hroom, hface, if_false])

theorem post_withFaces (s : State) (f : Table Face 32) (b : NoticeBody) :
    State.post { s with faces := f } b = { s.post b with faces := f } := by
  rcases post_uniform s b with ⟨q, h⟩ | ⟨i, _, h⟩ | h <;> rw [h { s with faces := f } rfl rfl, h s rfl rfl]

theorem faceErase_insert_comm (m : FaceSet) {i j : FaceNo} (h : j ≠ i) :
    faceErase (faceInsert m j) i = faceInsert (faceErase m i) j := by
  apply faceSet_ext
  intro k
  simp only [faceIn_erase, faceIn_insert]
  by_cases hk : k = j
  · subst hk; simp [h]
  · simp [hk]

/-- A face taken out of the change set before a notice about something else, or after it. -/
theorem post_withErased (s : State) (i : FaceNo) {b : NoticeBody} (h : b.face ≠ some i) :
    State.post { s with changeSet := faceErase s.changeSet i } b =
      { s.post b with changeSet := faceErase (s.post b).changeSet i } := by
  rcases post_uniform s b with ⟨q, e⟩ | ⟨j, hj, e⟩ | e
  · rw [e { s with changeSet := faceErase s.changeSet i } rfl rfl, e s rfl rfl]
  · rw [e { s with changeSet := faceErase s.changeSet i } rfl rfl, e s rfl rfl]
    have hne : j ≠ i := fun hji => h (by rw [hj, hji])
    dsimp only
    rw [faceErase_insert_comm _ hne]
  · rw [e { s with changeSet := faceErase s.changeSet i } rfl rfl, e s rfl rfl]

/-! ### Notices posted one after the other -/

@[simp] theorem postAll_nil (s : State) : s.postAll [] = s := rfl

theorem postAll_append (s : State) (a b : List NoticeBody) : s.postAll (a ++ b) = (s.postAll a).postAll b := by
  simp [State.postAll]

theorem postAll_only (s : State) (l : List NoticeBody) : OnlyNotices s (s.postAll l) := by
  refine foldl_keeps (P := OnlyNotices s) (fun b t ht => ?_) l s (.refl s)
  obtain ⟨_, _, _, rfl⟩ := ht
  obtain ⟨q, c, o, e⟩ := post_footprint _ b
  exact ⟨q, c, o, e⟩

theorem postAll_withFaces (f : Table Face 32) (l : List NoticeBody) (s : State) :
    State.postAll { s with faces := f } l = { s.postAll l with faces := f } := by
  induction l generalizing s with
  | nil => rfl
  | cons b l ih => rw [State.postAll, List.foldl_cons, post_withFaces]; exact ih (s.post b)

theorem postAll_withErased (i : FaceNo) (l : List NoticeBody) (h : ∀ b ∈ l, b.face ≠ some i) (s : State) :
    State.postAll { s with changeSet := faceErase s.changeSet i } l =
      { s.postAll l with changeSet := faceErase (s.postAll l).changeSet i } := by
  induction l generalizing s with
  | nil => rfl
  | cons b l ih =>
    rw [State.postAll, List.foldl_cons, post_withErased s i (h b List.mem_cons_self)]
    exact ih (fun b' hb' => h b' (List.mem_cons_of_mem b hb')) (s.post b)

/-! ### The enable latch -/

/-- Whether the enable latch makes a face JOINING (R92). -/
def State.joins (s : State) (i : FaceNo) : Bool :=
  decide (i.val < s.span.size) && (s.faces.get i).config.enabled && decide ((s.faces.get i).dyn.state = .offline)

/-- Whether the enable latch takes a face out of service (R102). -/
def State.leaves (s : State) (i : FaceNo) : Bool :=
  decide (i.val < s.span.size) && !(s.faces.get i).config.enabled && !decide ((s.faces.get i).dyn.state = .offline)

/-- The face table once the enable latch has passed over the faces of `l`. -/
def State.latchedFaces (s : State) (l : List FaceNo) : Table Face 32 :=
  s.faces.mapNo (fun i f => if i ∈ l then f.latched (decide (i.val < s.span.size)) else f)

/-- The change set once the enable latch has passed over the faces of `l`. -/
def State.latchedChanges (s : State) (l : List FaceNo) : FaceSet :=
  s.changeSet &&& ~~~(faceSetOf (fun i => decide (i ∈ l) && s.leaves i))

/-- The notices of the faces of `l` that the enable latch makes JOINING. -/
def State.joinNotices (s : State) (l : List FaceNo) : List NoticeBody :=
  (l.filter s.joins).map (fun i => .faceState i .joining false)

/-- The part once the enable latch has passed over the faces of `l`. -/
def State.latchedOver (s : State) (l : List FaceNo) : State :=
  State.postAll { s with faces := s.latchedFaces l, changeSet := s.latchedChanges l } (s.joinNotices l)

theorem faceIn_and_not (m n : FaceSet) (i : FaceNo) : faceIn (m &&& ~~~n) i = (faceIn m i && !faceIn n i) := by
  simp [faceIn, i.isLt]

/-- The three things the enable latch does to a face's record. -/
theorem latched_of_joins {s : State} {i : FaceNo} (h : s.joins i = true) :
    (s.faces.get i).latched (decide (i.val < s.span.size)) =
      { s.faces.get i with dyn := { (s.faces.get i).dyn with state := .joining } } := by
  simp only [State.joins, Bool.and_eq_true, decide_eq_true_eq] at h
  simp [Face.latched, h]

theorem latched_of_leaves {s : State} {i : FaceNo} (h : s.leaves i = true) :
    (s.faces.get i).latched (decide (i.val < s.span.size)) =
      { s.faces.get i with dyn := FaceDynamic.cleared .offline } := by
  simp only [State.leaves, Bool.and_eq_true, decide_eq_true_eq, Bool.not_eq_true', decide_eq_false_iff_not] at h
  simp [Face.latched, h]

theorem latched_of_stays {s : State} {i : FaceNo} (hj : s.joins i = false) (hl : s.leaves i = false) :
    (s.faces.get i).latched (decide (i.val < s.span.size)) = s.faces.get i := by
  simp only [State.joins, State.leaves] at hj hl
  unfold Face.latched
  by_cases hs : i.val < s.span.size <;> by_cases he : (s.faces.get i).config.enabled = true <;>
    by_cases ho : (s.faces.get i).dyn.state = .offline <;> simp_all

theorem latchFace_of_joins {s : State} {i : FaceNo} (h : s.joins i = true) :
    State.latchFace i s =
      (s.setFaceDyn i { (s.faces.get i).dyn with state := .joining }).post (.faceState i .joining false) := by
  simp only [State.joins, Bool.and_eq_true, decide_eq_true_eq] at h
  simp [State.latchFace, Span.covers, h]

theorem latchFace_of_leaves {s : State} {i : FaceNo} (h : s.leaves i = true) : State.latchFace i s = s.goOffline i := by
  simp only [State.leaves, Bool.and_eq_true, decide_eq_true_eq, Bool.not_eq_true', decide_eq_false_iff_not] at h
  simp [State.latchFace, Span.covers, h]

theorem latchFace_of_stays {s : State} {i : FaceNo} (hj : s.joins i = false) (hl : s.leaves i = false) :
    State.latchFace i s = s := by
  simp only [State.joins, State.leaves] at hj hl
  unfold State.latchFace Span.covers
  by_cases hs : i.val < s.span.size <;> by_cases he : (s.faces.get i).config.enabled = true <;>
    by_cases ho : (s.faces.get i).dyn.state = .offline <;> simp_all

/-! The enable latch over one face more. -/

theorem latchedFaces_concat (s : State) (l : List FaceNo) (a : FaceNo) :
    s.latchedFaces (l ++ [a]) =
      (s.latchedFaces l).set a ((s.faces.get a).latched (decide (a.val < s.span.size))) := by
  apply Table.ext_get
  intro j
  by_cases hj : j = a
  · subst hj; simp [State.latchedFaces]
  · simp [State.latchedFaces, hj]

theorem latchedFaces_get_of_not_mem (s : State) {l : List FaceNo} {a : FaceNo} (h : a ∉ l) :
    (s.latchedFaces l).get a = s.faces.get a := by simp [State.latchedFaces, h]

theorem latchedChanges_concat (s : State) (l : List FaceNo) (a : FaceNo) :
    s.latchedChanges (l ++ [a]) =
      if s.leaves a then faceErase (s.latchedChanges l) a else s.latchedChanges l := by
  apply faceSet_ext
  intro j
  by_cases hj : j = a
  · subst hj
    cases h : s.leaves j <;> simp [State.latchedChanges, faceIn_and_not, faceIn_erase, h]
  · cases h : s.leaves a <;> simp [State.latchedChanges, faceIn_and_not, faceIn_erase, hj]

theorem joinNotices_concat (s : State) (l : List FaceNo) (a : FaceNo) :
    s.joinNotices (l ++ [a]) = s.joinNotices l ++ if s.joins a then [.faceState a .joining false] else [] := by
  cases h : s.joins a <;> simp [State.joinNotices, h]

theorem joinNotices_face (s : State) {l : List FaceNo} {a : FaceNo} (h : a ∉ l) :
    ∀ b ∈ s.joinNotices l, b.face ≠ some a := by
  simp only [State.joinNotices, List.mem_map, List.mem_filter]
  rintro b ⟨i, ⟨hi, _⟩, rfl⟩ hia
  cases hia
  exact h hi

/-- A face cannot both join and leave. -/
theorem leaves_of_joins {s : State} {i : FaceNo} (h : s.joins i = true) : s.leaves i = false := by
  simp only [State.joins, Bool.and_eq_true, decide_eq_true_eq] at h
  simp [State.leaves, h]

theorem latchedOver_span (s : State) (l : List FaceNo) : (s.latchedOver l).span = s.span := by
  obtain ⟨q, c, o, h⟩ := postAll_only { s with faces := s.latchedFaces l, changeSet := s.latchedChanges l } (s.joinNotices l)
  rw [State.latchedOver, h]

theorem latchedOver_faces (s : State) (l : List FaceNo) : (s.latchedOver l).faces = s.latchedFaces l := by
  obtain ⟨q, c, o, h⟩ := postAll_only { s with faces := s.latchedFaces l, changeSet := s.latchedChanges l } (s.joinNotices l)
  rw [State.latchedOver, h]

theorem latchedOver_append_singleton (s : State) (l : List FaceNo) (a : FaceNo) :
    s.latchedOver (l ++ [a]) =
      State.postAll
        (State.postAll
          { s with
            faces := (s.latchedFaces l).set a ((s.faces.get a).latched (decide (a.val < s.span.size)))
            changeSet := if s.leaves a then faceErase (s.latchedChanges l) a else s.latchedChanges l }
          (s.joinNotices l))
        (if s.joins a then [.faceState a .joining false] else []) := by
  rw [State.latchedOver, latchedFaces_concat, latchedChanges_concat, joinNotices_concat, postAll_append]

theorem latchFace_latchedOver (s : State) {l : List FaceNo} {a : FaceNo} (h : a ∉ l) :
    State.latchFace a (s.latchedOver l) = s.latchedOver (l ++ [a]) := by
  have hget : (s.latchedOver l).faces.get a = s.faces.get a := by
    rw [latchedOver_faces, latchedFaces_get_of_not_mem s h]
  have hjoins : (s.latchedOver l).joins a = s.joins a := by simp only [State.joins, latchedOver_span, hget]
  have hleaves : (s.latchedOver l).leaves a = s.leaves a := by simp only [State.leaves, latchedOver_span, hget]
  rw [latchedOver_append_singleton]
  cases hj : s.joins a with
  | true =>
    rw [latchFace_of_joins (hjoins.trans hj), latched_of_joins hj, leaves_of_joins hj, State.setFaceDyn, State.setFace, hget,
      latchedOver_faces, State.latchedOver, ← postAll_withFaces]
    rfl
  | false =>
    cases hl : s.leaves a with
    | true =>
      rw [latchFace_of_leaves (hleaves.trans hl), latched_of_leaves hl, State.goOffline, State.setFaceDyn, State.setFace, hget,
        latchedOver_faces, State.latchedOver, ← postAll_withFaces]
      exact (postAll_withErased a _ (joinNotices_face s h) _).symm
    | false =>
      rw [latchFace_of_stays (hjoins.trans hj) (hleaves.trans hl), latched_of_stays hj hl,
        ← latchedFaces_get_of_not_mem s h, Table.set_get_self]
      rfl

/-- The enable latch made face by face over a list without repetition. -/
theorem foldl_latchFace (s : State) (l : List FaceNo) (h : l.Nodup) :
    l.foldl (fun t i => State.latchFace i t) s = s.latchedOver l := by
  induction l using List.reverseRecOn with
  | nil =>
    have hfaces : s.latchedFaces [] = s.faces := Table.ext_get fun i => by simp [State.latchedFaces]
    have hchanges : s.latchedChanges [] = s.changeSet := faceSet_ext fun i => by
      simp [State.latchedChanges, faceIn_and_not]
    simp only [State.latchedOver, hfaces, hchanges, State.joinNotices, List.filter_nil, List.map_nil, postAll_nil, List.foldl_nil]
  | append_singleton l a ih =>
    obtain ⟨hl, _, hdisj⟩ := List.nodup_append.mp h
    have ha : a ∉ l := fun hmem => hdisj a hmem a (List.mem_singleton_self a) rfl
    rw [List.foldl_append, ih hl]
    exact latchFace_latchedOver s ha

/-- R92, R102: the enable latch as one change of the face table and the change set, and the notices in ascending order. -/
theorem latchEnables_eq (s : State) : s.latchEnables = s.latchedOver allFaces := foldl_latchFace s allFaces allFaces_nodup

theorem latchedFaces_allFaces (s : State) :
    s.latchedFaces allFaces = s.faces.mapNo (fun i f => f.latched (decide (i.val < s.span.size))) :=
  Table.ext_get fun i => by simp [State.latchedFaces, allFaces_mem]

theorem latchedChanges_allFaces (s : State) : s.latchedChanges allFaces = s.changeSet &&& ~~~(faceSetOf s.leaves) :=
  faceSet_ext fun i => by simp [State.latchedChanges, faceIn_and_not, allFaces_mem]

theorem curveLatch_eq : Curve.latch = fun c => ⟨c.waiting.getD c.live, none⟩ := by
  funext ⟨live, waiting⟩
  cases waiting <;> rfl

/-- R2, steps 1 to 4, as one equation. -/
theorem latchCycle_eq (s : State) : s.latchCycle = s.latched := by
  unfold State.latchCycle
  rw [latchEnables_eq, State.latchedOver, latchedFaces_allFaces, latchedChanges_allFaces]
  unfold State.latched State.latchCurves
  rw [curveLatch_eq]
  rfl

/-! ### The slot start -/

theorem drives_eq_true (m : Mode) : m.drives = true ↔ m = .running ∨ m = .halting := by cases m <;> simp [Mode.drives]

theorem blankClaimed_eq_true (s : State) (i : FaceNo) :
    s.blankClaimed i = true ↔ (s.claims.get i).map Claim.mode = some .blank := by
  unfold State.blankClaimed
  rcases s.claims.get i with _ | ⟨_ | v, r⟩ <;> simp

theorem widthFor_eq (s : State) (i : FaceNo) : s.widthFor i = s.effective i := by
  unfold State.widthFor State.effective State.zoneOf
  rcases (s.faces.get i).dyn.capability with _ | ⟨_ | _, _, _⟩ <;>
    cases (s.zones.get (s.faces.get i).config.zone).config.width <;> rfl

/-- R26: the slot of a LEVEL frame, and the generator after it; the face's dynamic part, just written, does not enter. -/
theorem levelSlot_setFaceDyn (s : State) (i : FaceNo) (d : FaceDynamic) (w : Width) (code wrote : Nat) :
    (s.setFaceDyn i d).levelSlot i w code wrote =
      ({ s.setFaceDyn i d with proofGen := (s.proofFor i).2 },
        s.slotOf i (.level w code (s.proofFor i).1) (some wrote)) := by
  have hconfig : ((s.setFaceDyn i d).faces.get i).config = (s.faces.get i).config := by simp
  unfold State.levelSlot State.newSlot State.zoneOf State.proofFor State.slotOf
  rw [hconfig]
  cases (s.faces.get i).config.proof <;> rfl

/-- The part once the slot of face `i` has started with a LEVEL frame of `code`, `wrote` being the commanded level and `step` the
pattern step that the slot start leaves (R9, R59, R61). -/
def State.levelStarted (s : State) (served : List FaceNo) (i : FaceNo) (todo : List FaceNo) (code wrote step : Nat) : State :=
  { s with
    faces := s.faces.set i
      { s.faces.get i with dyn := { (s.faces.get i).dyn with commanded := some wrote, patternStep := step } }
    proofGen := (s.proofFor i).2
    cycle := some ⟨served, s.slotOf i (.level (s.effective i) code (s.proofFor i).1) (some wrote), todo⟩ }

theorem slotStart_of_engine {s : State} {i : FaceNo} (h : s.frameChoice i = .engine) (served todo : List FaceNo) :
    s.slotStart served i todo = s.levelStarted served i todo (s.codeFor i) (s.levelFor i)
      (if (s.goalFor i).pattern then ((s.faces.get i).dyn.patternStep + 1) % 8 else (s.faces.get i).dyn.patternStep) := by
  unfold State.slotStart State.openSlot State.runEngine
  simp only [h, levelSlot_setFaceDyn, widthFor_eq]
  rfl

theorem slotStart_of_dark {s : State} {i : FaceNo} (h : s.frameChoice i = .dark) (served todo : List FaceNo) :
    s.slotStart served i todo = s.levelStarted served i todo 0 0 (s.faces.get i).dyn.patternStep := by
  unfold State.slotStart State.openSlot State.darken
  simp only [h, levelSlot_setFaceDyn, widthFor_eq]
  rfl

theorem slotStart_of_ident {s : State} {i : FaceNo} (h : s.frameChoice i = .ident) (served todo : List FaceNo) :
    s.slotStart served i todo = { s with cycle := some ⟨served, s.slotOf i .ident none, todo⟩ } := by
  unfold State.slotStart State.openSlot
  simp only [h]
  rfl

theorem slotStart_of_hold {s : State} {i : FaceNo} (h : s.frameChoice i = .hold) (served todo : List FaceNo) :
    s.slotStart served i todo = { s with cycle := some ⟨served, s.slotOf i .hold none, todo⟩ } := by
  unfold State.slotStart State.openSlot
  simp only [h]
  rfl

theorem drives_of_not {m : Mode} (h : ¬(m = .running ∨ m = .halting)) : m.drives = false :=
  Bool.eq_false_iff.mpr fun hd => h ((drives_eq_true m).mp hd)

/-- R9, R10: a slot start, by the face's state, the part's mode and the face's claim. -/
theorem slotStart_eq (s : State) (served : List FaceNo) (i : FaceNo) (todo : List FaceNo) :
    s.slotStart served i todo = s.slotStarted served i todo := by
  have hclaim := blankClaimed_eq_true s i
  unfold State.slotStarted
  dsimp only
  split
  · rename_i hstate
    exact slotStart_of_ident (by simp only [State.frameChoice, hstate]) served todo
  · rename_i hstate
    exact slotStart_of_ident (by simp only [State.frameChoice, hstate]) served todo
  · rename_i hstate
    split
    · rename_i hmode
      have hdrives := (drives_eq_true s.mode).mpr hmode
      exact slotStart_of_engine (by simp [State.frameChoice, hstate, hdrives]) served todo
    · rename_i hmode
      have hdrives := drives_of_not hmode
      split
      · rename_i hblank
        have hclaimed := hclaim.mpr (hblank.resolve_left (by rw [hstate]; decide))
        exact slotStart_of_dark (by simp [State.frameChoice, hstate, hdrives, hclaimed]) served todo
      · rename_i hblank
        have hclaimed : s.blankClaimed i = false := Bool.eq_false_iff.mpr fun h => hblank (.inr (hclaim.mp h))
        exact slotStart_of_hold (by simp [State.frameChoice, hstate, hdrives, hclaimed]) served todo
  · rename_i hstate
    split
    · rename_i hmode
      have hdrives := (drives_eq_true s.mode).mpr hmode
      exact slotStart_of_engine (by simp [State.frameChoice, hstate, hdrives]) served todo
    · rename_i hmode
      have hdrives := drives_of_not hmode
      rw [if_pos (.inl hstate)]
      exact slotStart_of_dark (by simp [State.frameChoice, hstate, hdrives]) served todo

/-! ### Cycle starts and ends -/

theorem completeHalt_eq (s : State) : s.completeHalt = s.haltDone := rfl

theorem slotList_eq (s : State) :
    s.slotList = allFaces.filter (fun i => decide (i.val < s.span.size) && decide ((s.faces.get i).dyn.state ≠ .offline)) := rfl

/-- R2: the whole cycle start as one equation. -/
theorem cycleStart_eq (s : State) : s.cycleStart = s.cycleStarted := by
  obtain ⟨f, q, c, o, h⟩ := latchCycle_spec s
  have hspan : s.latchCycle.span = s.span := by rw [h]
  have hmode : s.latchCycle.mode = s.mode := by rw [h]
  unfold State.cycleStart State.beginCycle State.cycleStarted
  rw [slotList_eq, ← latchCycle_eq, ← hspan, ← hmode]
  dsimp only
  clear h hspan hmode
  generalize s.latchCycle = u
  generalize allFaces.filter _ = l
  cases l with
  | nil => rfl
  | cons i todo => exact slotStart_eq _ _ _ _

theorem cycleEnd_eq (s : State) : s.cycleEnd = s.cycleEnded := by
  unfold State.cycleEnd State.cycleEnded
  dsimp only
  rw [cycleStart_eq]
  rfl

theorem nextSlot_eq (s : State) (c : Cycle) : s.nextSlot c = s.slotOver c := by
  unfold State.nextSlot State.slotOver
  rw [cycleEnd_eq]
  cases c.todo with
  | nil => rfl
  | cons i rest => exact slotStart_eq s _ i rest

theorem slotEnd_eq (s : State) (c : Cycle) (reply : Option FaceReply) :
    s.slotEnd c reply = s.slotEnded c c.slot.outcomes reply := by
  unfold State.slotEnd State.slotEnded
  dsimp only
  rw [nextSlot_eq]
  cases reply <;> rfl

theorem attemptValid_eq (s : State) (c : Cycle) (reply : FaceReply) :
    s.attemptValid c reply = s.slotEnded c (c.slot.outcomes ++ [.valid]) (some reply) := slotEnd_eq s (c.addOutcome .valid) _

theorem countCorrupt_eq (s : State) (i : FaceNo) :
    s.countCorrupt i = s.counting i (fun n => { n with corrupt := min 4095 (n.corrupt + 1) }) := rfl

theorem attemptFailed_eq (s : State) (c : Cycle) (o : AttemptOutcome) : s.attemptFailed c o = s.attemptOver c o := by
  unfold State.attemptFailed State.attemptOver
  dsimp only
  rw [slotEnd_eq, countCorrupt_eq]
  rfl

/-- Settles O37: the slot start by the face's state and the mode; the ends by the equations above. -/
theorem slotStartsAndEnds : Obligations.SlotStartsAndEnds := by
  unfold Obligations.SlotStartsAndEnds
  exact ⟨slotStart_eq, fun s c => ⟨attemptValid_eq s c, attemptFailed_eq s c⟩⟩

/-- Settles O36: by the equation of the cycle start. -/
theorem cycleTimerExpiry : Obligations.CycleTimerExpiry := by
  unfold Obligations.CycleTimerExpiry
  intro s hr
  show Host.Outcome.next (if s.cycleTimer.isNone || s.resetting then s else if s.cycle.isSome then s.overrun
    else if s.mode = .halted then s else s.cycleStart) = _
  rw [hr, cycleStart_eq]
  by_cases htimer : s.cycleTimer = none
  · simp [htimer]
  · by_cases hcycle : s.cycle = none
    · simp [htimer, hcycle]
    · rw [if_neg (by simpa using htimer), if_pos (Option.isSome_iff_ne_none.mpr hcycle), if_neg htimer, if_pos hcycle]
      rfl

end Sys2Proof.Machine
end

section
/-! A reply on the chain, byte by byte (O39 to O41). What the last byte of a reply does is not changed by the bytes before it, which
only stood in the attempt; so a frame fed to an open window is judged as a whole: `feedChain_stillToCome`. -/

namespace Sys2Proof.Machine

/-! ### The end of an attempt does not look at the cycle in progress -/

/-- The part with the cycle in progress replaced. -/
def State.setCycle (s : State) (y : Option Cycle) : State := { s with cycle := y }

theorem post_setCycle (s : State) (y : Option Cycle) (b : NoticeBody) :
    (s.setCycle y).post b = (s.post b).setCycle y := by
  rcases post_uniform s b with ⟨q, h⟩ | ⟨i, _, h⟩ | h <;> rw [h (s.setCycle y) rfl rfl, h s rfl rfl] <;> rfl

theorem setFaceDyn_setCycle (s : State) (y : Option Cycle) (i : FaceNo) (d : FaceDynamic) :
    (s.setCycle y).setFaceDyn i d = (s.setFaceDyn i d).setCycle y := rfl

theorem enterCutoff_setCycle (s : State) (y : Option Cycle) (i : FaceNo) :
    (s.setCycle y).enterCutoff i = (s.enterCutoff i).setCycle y := by
  unfold State.enterCutoff
  dsimp only
  rw [← post_setCycle]
  rfl

theorem cutoffTest_setCycle (s : State) (y : Option Cycle) (i : FaceNo) :
    (s.setCycle y).cutoffTest i = (s.cutoffTest i).setCycle y := by
  unfold State.cutoffTest
  rw [enterCutoff_setCycle]
  exact (apply_ite (State.setCycle · y) _ _ _).symm

theorem reportFaults_setCycle (s : State) (y : Option Cycle) (i : FaceNo) (before : KindSet) (d : FaceDynamic)
    (life : Option (FaceState × Bool)) :
    (s.setCycle y).reportFaults i before d life = (s.reportFaults i before d life).setCycle y := by
  unfold State.reportFaults
  simp only [setFaceDyn_setCycle, post_setCycle, ← apply_ite (State.setCycle · y)]
  cases life <;> simp only [cutoffTest_setCycle]

theorem faultMonitor_setCycle (s : State) (y : Option Cycle) (r : SlotReport) :
    (s.setCycle y).faultMonitor r = (s.faultMonitor r).setCycle y :=
  reportFaults_setCycle s y r.face _ _ _

theorem counting_setCycle (s : State) (y : Option Cycle) (i : FaceNo) (f : Counters → Counters) :
    (s.setCycle y).counting i f = (s.counting i f).setCycle y := rfl

@[simp] theorem withAttempt_face (c : Cycle) (a : Attempt) : (c.withAttempt a).slot.face = c.slot.face := rfl
@[simp] theorem withAttempt_frame (c : Cycle) (a : Attempt) : (c.withAttempt a).slot.frame = c.slot.frame := rfl
@[simp] theorem withAttempt_wrote (c : Cycle) (a : Attempt) : (c.withAttempt a).slot.wrote = c.slot.wrote := rfl
@[simp] theorem withAttempt_dmax (c : Cycle) (a : Attempt) : (c.withAttempt a).slot.dmax = c.slot.dmax := rfl

theorem slotOver_setCycle (s : State) (y : Option Cycle) (c : Cycle) (a : Attempt) :
    (s.setCycle y).slotOver (c.withAttempt a) = s.slotOver c := by
  unfold State.slotOver
  cases h : c.todo <;> simp only [Cycle.withAttempt, h] <;> rfl

theorem slotEnded_setCycle (s : State) (y : Option Cycle) (c : Cycle) (a : Attempt) (outcomes : List AttemptOutcome)
    (reply : Option FaceReply) :
    (s.setCycle y).slotEnded (c.withAttempt a) outcomes reply = s.slotEnded c outcomes reply := by
  unfold State.slotEnded
  cases reply <;>
    simp only [withAttempt_face, withAttempt_frame, withAttempt_wrote, withAttempt_dmax, counting_setCycle,
      faultMonitor_setCycle, slotOver_setCycle]

theorem attemptOver_setCycle (s : State) (y : Option Cycle) (c : Cycle) (a : Attempt) (o : AttemptOutcome) :
    (s.setCycle y).attemptOver (c.withAttempt a) o = s.attemptOver c o := by
  unfold State.attemptOver
  simp only [withAttempt_face, counting_setCycle, ← apply_ite (State.setCycle · y)]
  generalize (if o = .corrupt then _ else s) = t
  rw [slotEnded_setCycle]
  rfl

/-! ### A byte of a reply, by what it makes of the reply -/

theorem takeWait_eq (s : State) (c : Cycle) (w n : Nat) (e : Bool) :
    s.takeWait c w n e =
      if c.slot.extension = 3 then
        if n < 8 then s.attempting c (.listening 2 (n + 1) false none) else s.attemptOver c .silent
      else if e then s.attemptOver c .silent
      else s.attempting c (.listening w n false none) := by
  unfold State.takeWait
  rw [attemptFailed_eq]
  rfl

theorem replyByte_of_more {bytes : List Byte} (s : State) (c : Cycle) (w n : Nat) (e : Bool) (h : replyProgress bytes = .more) :
    s.replyByte c w n e bytes = s.attempting c (.listening w n e (some bytes)) := by
  unfold State.replyByte; rw [h]; rfl

theorem replyByte_of_badKind {bytes : List Byte} (s : State) (c : Cycle) (w n : Nat) (e : Bool)
    (h : replyProgress bytes = .badKind) : s.replyByte c w n e bytes = s.attemptOver c .corrupt := by
  unfold State.replyByte; rw [h]; exact attemptFailed_eq s c .corrupt

theorem replyByte_of_corrupt {bytes : List Byte} (s : State) (c : Cycle) (w n : Nat) (e : Bool)
    (h : replyProgress bytes = .complete) (hj : judgeReply c.slot.face bytes = .corrupt) :
    s.replyByte c w n e bytes = s.attemptOver c .corrupt := by
  unfold State.replyByte; rw [h, hj]; exact attemptFailed_eq s c .corrupt

theorem replyByte_of_valid {bytes : List Byte} {reply : FaceReply} (s : State) (c : Cycle) (w n : Nat) (e : Bool)
    (h : replyProgress bytes = .complete) (hj : judgeReply c.slot.face bytes = .valid reply) :
    s.replyByte c w n e bytes = s.slotEnded c (c.slot.outcomes ++ [.valid]) (some reply) := by
  unfold State.replyByte; rw [h, hj]; exact attemptValid_eq s c reply

theorem replyByte_of_wait {bytes : List Byte} (s : State) (c : Cycle) (w n : Nat) (e : Bool)
    (h : replyProgress bytes = .complete) (hj : judgeReply c.slot.face bytes = .wait) :
    s.replyByte c w n e bytes = s.takeWait c w n e := by
  unfold State.replyByte; rw [h, hj]

/-- The bytes taken before, which stood in the attempt, do not change what a byte of the reply does. -/
theorem replyByte_attempting (s : State) (c : Cycle) (a : Attempt) (w n : Nat) (e : Bool) (bytes : List Byte) :
    (s.attempting c a).replyByte (c.withAttempt a) w n e bytes = s.replyByte c w n e bytes := by
  have hover : ∀ o, (s.attempting c a).attemptOver (c.withAttempt a) o = s.attemptOver c o :=
    fun o => attemptOver_setCycle s _ c a o
  cases hp : replyProgress bytes with
  | more => rw [replyByte_of_more _ _ _ _ _ hp, replyByte_of_more _ _ _ _ _ hp]; rfl
  | badKind => rw [replyByte_of_badKind _ _ _ _ _ hp, replyByte_of_badKind _ _ _ _ _ hp, hover]
  | complete =>
    cases hj : judgeReply c.slot.face bytes with
    | valid r =>
      rw [replyByte_of_valid _ _ _ _ _ hp hj, replyByte_of_valid _ _ _ _ _ hp (by rw [withAttempt_face, hj])]
      exact slotEnded_setCycle s _ c a _ (some r)
    | wait =>
      rw [replyByte_of_wait _ _ _ _ _ hp hj, replyByte_of_wait _ _ _ _ _ hp (by rw [withAttempt_face, hj]), takeWait_eq, takeWait_eq, hover]
      rfl
    | corrupt =>
      rw [replyByte_of_corrupt _ _ _ _ _ hp hj, replyByte_of_corrupt _ _ _ _ _ hp (by rw [withAttempt_face, hj]), hover]

/-! ### Bytes fed to an open window -/

theorem exec_chainByte_replying {s : State} {c : Cycle} {w n : Nat} {e : Bool} {before : List Byte} (hc : s.cycle = some c)
    (ha : c.slot.attempt = .listening w n e (some before)) (b : Byte) :
    exec (.chainByteReceived b) s = .next (s.replyByte c w n e (before ++ [b])) := by
  simp only [exec, execChainByteReceived, hc, ha]

theorem exec_chainByte_waiting {s : State} {c : Cycle} {w n : Nat} {e : Bool} (hc : s.cycle = some c)
    (ha : c.slot.attempt = .listening w n e none) (b : Byte) :
    exec (.chainByteReceived b) s = .next (if b = 0x5C#8 then s.attempting c (.listening w n e (some [])) else s) := by
  simp only [exec, execChainByteReceived, hc, ha]
  rfl

/-- A reply that needs all of `rest` to come to its end is taken as a whole at the last byte of it. -/
theorem feedChain_reply {w n : Nat} {e : Bool} (rest : List Byte) {s : State} {c : Cycle} {before : List Byte}
    (hc : s.cycle = some c) (ha : c.slot.attempt = .listening w n e (some before)) (hne : rest ≠ [])
    (hmore : ∀ p q, p ≠ [] → q ≠ [] → rest = p ++ q → replyProgress (before ++ p) = .more) :
    feedChain rest s = .next (s.replyByte c w n e (before ++ rest)) := by
  induction rest generalizing s c before with
  | nil => exact absurd rfl hne
  | cons b rest ih =>
    simp only [feedChain, exec_chainByte_replying hc ha]
    by_cases hlast : rest = []
    · subst hlast; rfl
    · have hb : replyProgress (before ++ [b]) = .more := hmore [b] rest (List.cons_ne_nil _ _) hlast rfl
      have hrest : ∀ p q, p ≠ [] → q ≠ [] → rest = p ++ q → replyProgress (before ++ [b] ++ p) = .more := by
        intro p q _ hq hpq
        rw [List.append_assoc]
        exact hmore (b :: p) q (List.cons_ne_nil _ _) hq (by rw [hpq]; rfl)
      rw [replyByte_of_more s c w n e hb]
      rw [ih (c := c.withAttempt (.listening w n e (some (before ++ [b])))) rfl rfl hlast hrest, replyByte_attempting,
        List.append_assoc]
      rfl

/-- R15: a frame in an open window, from its first byte or from any point of it once it has begun, is taken as a whole. -/
theorem feedChain_stillToCome {s : State} {c : Cycle} {w n : Nat} {e : Bool} {taken : Option (List Byte)} {all rest : List Byte}
    (hc : s.cycle = some c) (ha : c.slot.attempt = .listening w n e taken) (hstill : stillToCome taken (0x5C#8 :: all) rest)
    (hne : all ≠ []) (hmore : ∀ p q, q ≠ [] → all = p ++ q → replyProgress p = .more) :
    feedChain rest s = .next (s.replyByte c w n e all) := by
  cases taken with
  | none =>
    have hrest : rest = 0x5C#8 :: all := hstill
    subst hrest
    simp only [feedChain, exec_chainByte_waiting hc ha, if_true]
    rw [feedChain_reply all (c := c.withAttempt (.listening w n e (some []))) rfl rfl hne
      (fun p q _ hq hpq => hmore p q hq hpq), replyByte_attempting]
    rfl
  | some before =>
    obtain ⟨hframe, hrest⟩ : 0x5C#8 :: all = 0x5C#8 :: (before ++ rest) ∧ rest ≠ [] := hstill
    obtain rfl : all = before ++ rest := List.tail_eq_of_cons_eq hframe
    refine feedChain_reply rest hc ha hrest fun p q _ hq hpq => ?_
    exact hmore (before ++ p) q hq (by rw [hpq, List.append_assoc])

/-! ### Windows and gaps -/

theorem windowOf_eq (x : Nat) : windowOf x = if x = 1 then 4 else if x = 2 then 6 else 2 := by
  rcases x with _ | _ | _ | x <;> rfl

/-- Settles O39: by where the attempt stands. -/
theorem windowsAndGaps : Obligations.WindowsAndGaps := by
  unfold Obligations.WindowsAndGaps
  intro s
  refine ⟨fun c hc => ?_, fun hc => ⟨?_, ?_, ?_, fun b => ?_⟩⟩
  · have hcycle : s.cycle = some c := hc
    rcases hattempt : c.slot.attempt with _ | ⟨w, n, e, _ | r⟩ <;>
      simp [exec, execChainFrameSent, execReplyWindowExpiry, execChainReplyGapTimeout, hcycle, hattempt, attemptFailed_eq,
        windowOf_eq, State.attempting, Cycle.withAttempt]
  · simp only [exec, execChainFrameSent, hc]
  · simp only [exec, execReplyWindowExpiry, hc]
  · simp only [exec, execChainReplyGapTimeout, hc]
  · simp only [exec, execChainByteReceived, hc]

end Sys2Proof.Machine
end

section
/-! The faces' replies as R173 lays them out: what a reply's bytes measure out, and what is read of them (O40, O41). -/

namespace Sys2Proof.Machine

/-! ### Fields of bytes -/

theorem readBytes_fieldBytes (n v : Nat) (h : v < 256 ^ n) : readBytes (fieldBytes n v) = v := by
  have key : ∀ (n a : Nat), (fieldBytes n v).foldl (fun k b => k * 256 + b.toNat) a = a * 256 ^ n + v % 256 ^ n := by
    intro n
    induction n with
    | zero => intro a; simp [fieldBytes, Nat.mod_one]
    | succ n ih =>
      intro a
      rw [fieldBytes, List.foldl_cons, ih, Nat.mod_pow_succ, BitVec.toNat_ofNat]
      ring
  have := key n 0
  rwa [Nat.zero_mul, Nat.zero_add, Nat.mod_eq_of_lt h] at this

theorem length_fieldBytes (n v : Nat) : (fieldBytes n v).length = n := by
  induction n with
  | zero => rfl
  | succ n ih => simp [fieldBytes, ih]

theorem presentBytes_cons (n : Nat) (ns : List Nat) (f : Option Nat) (fs : List (Option Nat)) :
    presentBytes (n :: ns) (f :: fs) = presentBytes [n] [f] ++ presentBytes ns fs := by
  cases f <;> simp [presentBytes]

theorem length_presentBytes_singleton (n : Nat) (f : Option Nat) :
    (presentBytes [n] [f]).length = if f.isSome then n else 0 := by
  cases f <;> simp [presentBytes, length_fieldBytes]

/-- A field that is present when its flag says so is read back, and the bytes after it are left. -/
theorem takeField_presentBytes {n : Nat} {f : Option Nat} (h : ∀ v ∈ f, v < 256 ^ n) (rest : List Byte) :
    takeField f.isSome n (presentBytes [n] [f] ++ rest) = (f, rest) := by
  cases f with
  | none => rfl
  | some v =>
    have hlen := length_fieldBytes n v
    simp [takeField, presentBytes, List.take_left' hlen, List.drop_left' hlen, readBytes_fieldBytes n v (h v rfl)]

/-! ### What measures out a reply, and how a complete one is judged -/

/-- R15, R173: a payload is as long as its kind says, and for a STATUS its flags byte; `hi` and `lo` stand for the CRC after it. -/
def MeasuresOut (kind : Byte) (payload : List Byte) : Prop :=
  replyPayloadLength kind none ≠ none ∧
    ∀ hi lo : Byte, replyPayloadLength kind (payload ++ [hi, lo]).head? = some payload.length

theorem replyProgress_of_initial {kind : Byte} {payload : List Byte} (h : MeasuresOut kind payload) (address hi lo : Byte)
    (p q : List Byte) (hq : q ≠ []) (hpq : address :: kind :: (payload ++ [hi, lo]) = p ++ q) : replyProgress p = .more := by
  obtain ⟨hnone, hsome⟩ := h
  rcases p with _ | ⟨a, _ | ⟨k, _ | ⟨b, p⟩⟩⟩
  · rfl
  · rfl
  · obtain ⟨rfl, rfl, _⟩ : address = a ∧ kind = k ∧ _ := by simpa using hpq
    obtain ⟨m, hm⟩ := Option.ne_none_iff_exists'.mp hnone
    simp [replyProgress, hm]
  · simp only [List.cons_append, List.cons.injEq] at hpq
    obtain ⟨rfl, rfl, hbytes⟩ := hpq
    have hlength := hsome hi lo
    rw [hbytes] at hlength
    have hcount : payload.length + 2 = p.length + q.length + 1 := by
      have := congrArg List.length hbytes
      simpa [Nat.add_right_comm] using this
    have hpos : 0 < q.length := List.length_pos_of_ne_nil hq
    have hlt : p.length + 1 < payload.length + 2 := by omega
    simp only [List.head?_cons] at hlength
    simp [replyProgress, hlength, hlt]

theorem replyProgress_complete {kind : Byte} {payload : List Byte} (h : MeasuresOut kind payload) (address hi lo : Byte) :
    replyProgress (address :: kind :: (payload ++ [hi, lo])) = .complete := by
  simp only [replyProgress, h.2 hi lo, List.length_append, List.length_cons, List.length_nil, Nat.lt_irrefl, if_false]

theorem judgeReply_of_badCrc (face : FaceNo) {body : List Byte} {hi lo : Byte} (h : [hi, lo] ≠ crcBytes (crcOf body)) :
    judgeReply face (body ++ [hi, lo]) = .corrupt := by
  simp [judgeReply, Ne.symm h]

theorem judgeReply_of_badAddress {face : FaceNo} {address kind hi lo : Byte} {payload : List Byte}
    (h : address.toNat ≠ face.val) : judgeReply face (address :: kind :: (payload ++ [hi, lo])) = .corrupt := by
  simp [judgeReply, h]

theorem face_lt_256 (face : FaceNo) : face.val < 256 := Nat.lt_trans face.isLt (by decide)

theorem ofNat_face_toNat (face : FaceNo) : (BitVec.ofNat 8 face.val).toNat = face.val := Nat.mod_eq_of_lt (face_lt_256 face)

/-- A good frame's bytes after its start byte. -/
def replyBytes (face : FaceNo) (kind : Byte) (payload : List Byte) : List Byte :=
  BitVec.ofNat 8 face.val :: kind :: (payload ++ crcBytes (crcOf (BitVec.ofNat 8 face.val :: kind :: payload)))

theorem judgeReply_status {face : FaceNo} {payload : List Byte} {r : StatusReply} (h : parseStatus payload = some r) :
    judgeReply face (replyBytes face 0x81#8 payload) = .valid (.status r) := by
  have hlen : (crcBytes (crcOf (BitVec.ofNat 8 face.val :: 0x81#8 :: payload))).length = 2 := rfl
  simp [judgeReply, replyBytes, face_lt_256, hlen, h]

theorem judgeReply_identity {face : FaceNo} {payload : List Byte} {r : IdentityReply} (h : parseIdentity payload = some r) :
    judgeReply face (replyBytes face 0x82#8 payload) = .valid (.identity r) := by
  have hlen : (crcBytes (crcOf (BitVec.ofNat 8 face.val :: 0x82#8 :: payload))).length = 2 := rfl
  simp [judgeReply, replyBytes, face_lt_256, hlen, h]

theorem judgeReply_wait (face : FaceNo) : judgeReply face (replyBytes face 0x83#8 []) = .wait := by
  have hlen : (crcBytes (crcOf [BitVec.ofNat 8 face.val, 0x83#8])).length = 2 := rfl
  simp [judgeReply, replyBytes, face_lt_256, hlen]

/-! ### STATUS and IDENTITY (R173) -/

/-- The bits of a byte written as a sum of seven flags. -/
theorem getLsbD_flags (b0 b1 b2 b3 b4 b5 b6 : Bool) :
    let x : Byte := BitVec.ofNat 8
      ((if b0 then 1 else 0) + (if b1 then 2 else 0) + (if b2 then 4 else 0) + (if b3 then 8 else 0) + (if b4 then 16 else 0)
        + (if b5 then 32 else 0) + (if b6 then 64 else 0))
    x.getLsbD 0 = b0 ∧ x.getLsbD 1 = b1 ∧ x.getLsbD 2 = b2 ∧ x.getLsbD 3 = b3 ∧ x.getLsbD 4 = b4 ∧ x.getLsbD 5 = b5 ∧
      x.getLsbD 6 = b6 := by
  revert b0 b1 b2 b3 b4 b5 b6
  decide

/-- The flags byte of a STATUS as a face sends it. -/
def StatusReply.flagsSent (r : StatusReply) (spare : Byte) : Byte := r.flagsByte ||| (spare &&& 0x80#8)

theorem flagsSent_bits (r : StatusReply) (spare : Byte) :
    (r.flagsSent spare).getLsbD 0 = decide (r.shown.width = .w12) ∧ (r.flagsSent spare).getLsbD 1 = r.flags.power ∧
      (r.flagsSent spare).getLsbD 2 = r.flags.thermal ∧ (r.flagsSent spare).getLsbD 3 = r.flags.door ∧
      (r.flagsSent spare).getLsbD 4 = r.stringsOut.isSome ∧ (r.flagsSent spare).getLsbD 5 = r.measured.isSome ∧
      (r.flagsSent spare).getLsbD 6 = r.echo.isSome := by
  have h := getLsbD_flags (decide (r.shown.width = .w12)) r.flags.power r.flags.thermal r.flags.door r.stringsOut.isSome
    r.measured.isSome r.echo.isSome
  simp only [decide_eq_true_eq] at h
  have hspare : ∀ k < 7, (r.flagsSent spare).getLsbD k = r.flagsByte.getLsbD k := by
    intro k hk
    have hmask : ∀ k < 7, (0x80#8).getLsbD k = false := by decide
    simp only [StatusReply.flagsSent, BitVec.getLsbD_or, BitVec.getLsbD_and, hmask k hk, Bool.and_false, Bool.or_false]
  rw [hspare 0 (by decide), hspare 1 (by decide), hspare 2 (by decide), hspare 3 (by decide), hspare 4 (by decide),
    hspare 5 (by decide), hspare 6 (by decide)]
  exact h

/-- The payload of a STATUS as a face sends it: the flags, the shown code and the present fields. -/
def StatusReply.payload (r : StatusReply) (spare : Byte) : List Byte :=
  r.flagsSent spare :: (fieldBytes 2 r.shown.code ++ (presentBytes [1] [r.stringsOut] ++
    (presentBytes [2] [r.measured] ++ presentBytes [2] [r.echo.map BitVec.toNat])))

theorem status_body (r : StatusReply) (spare : Byte) : (FaceReply.status r).body spare = 0x81#8 :: r.payload spare := by
  rw [FaceReply.body, presentBytes_cons 1, presentBytes_cons 2]
  rfl

theorem status_measuresOut (r : StatusReply) (spare : Byte) : MeasuresOut 0x81#8 (r.payload spare) := by
  obtain ⟨_, _, _, _, h4, h5, h6⟩ := flagsSent_bits r spare
  refine ⟨Option.some_ne_none 3, fun hi lo => ?_⟩
  show some (3 + (if (r.flagsSent spare).getLsbD 4 then 1 else 0) + (if (r.flagsSent spare).getLsbD 5 then 2 else 0)
    + (if (r.flagsSent spare).getLsbD 6 then 2 else 0)) = _
  rw [h4, h5, h6]
  simp only [StatusReply.payload, List.length_cons, List.length_append, length_fieldBytes, length_presentBytes_singleton,
    Option.isSome_map]
  congr 1
  omega

theorem parseStatus_payload {r : StatusReply} (h : (FaceReply.status r).fits = true) (spare : Byte) :
    parseStatus (r.payload spare) = some r := by
  simp only [FaceReply.fits, Bool.and_eq_true, decide_eq_true_eq, Option.all_eq_true] at h
  obtain ⟨⟨hcode, hstrings⟩, hmeasured⟩ := h
  obtain ⟨h0, h1, h2, h3, h4, h5, h6⟩ := flagsSent_bits r spare
  have hwidth : statusWidth (r.flagsSent spare) = r.shown.width := by
    rw [statusWidth, h0]; cases r.shown.width <;> rfl
  have hstringsRead := takeField_presentBytes (n := 1) (f := r.stringsOut) (by simpa using hstrings)
    (presentBytes [2] [r.measured] ++ presentBytes [2] [r.echo.map BitVec.toNat])
  have hmeasuredRead := takeField_presentBytes (n := 2) (f := r.measured) (by simpa using hmeasured)
    (presentBytes [2] [r.echo.map BitVec.toNat])
  have hechoRead := takeField_presentBytes (n := 2) (f := r.echo.map BitVec.toNat) (by
    intro v hv
    obtain ⟨x, _, rfl⟩ := Option.mem_map.mp hv
    exact x.isLt) []
  have hcodeRead : readBytes [BitVec.ofNat 8 (r.shown.code / 256 ^ 1), BitVec.ofNat 8 (r.shown.code / 256 ^ 0)] = r.shown.code :=
    readBytes_fieldBytes 2 r.shown.code hcode
  have hecho : (r.echo.map BitVec.toNat).map (BitVec.ofNat 16) = r.echo := by
    rw [Option.map_map]; convert Option.map_id_apply using 2; funext x; simp
  rw [List.append_nil, Option.isSome_map] at hechoRead
  simp only [StatusReply.payload, fieldBytes, List.cons_append, List.nil_append, parseStatus, hcodeRead, hwidth, h1, h2, h3, h4,
    h5, h6, hstringsRead, hmeasuredRead, hechoRead, hecho]

/-- The payload of an IDENTITY as a face sends it. -/
def IdentityReply.payload (r : IdentityReply) (spare : Byte) : List Byte :=
  [BitVec.ofNat 8 ((if r.maxWidth = .w12 then 1 else 0) + (if r.photometer then 2 else 0)) ||| (spare &&& 0xFC#8),
    BitVec.ofNat 8 r.strings] ++ fieldBytes 2 r.code

theorem identity_body (r : IdentityReply) (spare : Byte) : (FaceReply.identity r).body spare = 0x82#8 :: r.payload spare := rfl

theorem identity_measuresOut (r : IdentityReply) (spare : Byte) : MeasuresOut 0x82#8 (r.payload spare) :=
  ⟨Option.some_ne_none 4, fun _ _ => rfl⟩

theorem parseIdentity_payload {r : IdentityReply} (h : (FaceReply.identity r).fits = true) (spare : Byte) :
    parseIdentity (r.payload spare) = some r := by
  simp only [FaceReply.fits, Bool.and_eq_true, decide_eq_true_eq] at h
  obtain ⟨hstrings, hcode⟩ := h
  have hcodeRead : readBytes [BitVec.ofNat 8 (r.code / 256 ^ 1), BitVec.ofNat 8 (r.code / 256 ^ 0)] = r.code :=
    readBytes_fieldBytes 2 r.code hcode
  have hstringsRead : (BitVec.ofNat 8 r.strings).toNat = r.strings := Nat.mod_eq_of_lt hstrings
  obtain ⟨w, p, k, v⟩ := r
  simp only [IdentityReply.payload, fieldBytes, List.cons_append, List.nil_append, parseIdentity, hcodeRead, hstringsRead]
  cases w <;> cases p <;> simp [statusWidth]

/-- What makes a body a complete reply: its payload is measured out, and a good frame of it is judged as `verdict`. -/
structure JudgedAs (verdict : ReplyVerdict) (kind : Byte) (payload : List Byte) : Prop where
  measured : MeasuresOut kind payload
  judged : ∀ face : FaceNo, judgeReply face (replyBytes face kind payload) = verdict

theorem reply_judged {reply : FaceReply} (h : reply.fits = true) (spare : Byte) :
    ∃ kind payload, reply.body spare = kind :: payload ∧ JudgedAs (.valid reply) kind payload := by
  cases reply with
  | status r =>
    exact ⟨_, _, status_body r spare, status_measuresOut r spare, fun face => judgeReply_status (parseStatus_payload h spare)⟩
  | identity r =>
    exact ⟨_, _, identity_body r spare, identity_measuresOut r spare, fun face => judgeReply_identity (parseIdentity_payload h spare)⟩

theorem wait_judged : JudgedAs .wait 0x83#8 [] := ⟨⟨Option.some_ne_none 0, fun _ _ => rfl⟩, judgeReply_wait⟩

end Sys2Proof.Machine
end

section
/-! What stands on the chain while the part sends (O38), and what the bytes that arrive in an open window do (O40, O41). -/

namespace Sys2Proof.Machine

/-! ### A frame measured out in an open window -/

theorem chainFrame_eq (face : FaceNo) (kind : Byte) (payload : List Byte) :
    chainFrame (BitVec.ofNat 8 face.val) (kind :: payload) = 0x5C#8 :: replyBytes face kind payload := rfl

/-- A frame of a measured kind is taken as a whole, whatever its address and its CRC. -/
theorem feedChain_measured {s : State} {c : Cycle} {w n : Nat} {e : Bool} {taken : Option (List Byte)}
    {address kind hi lo : Byte} {payload rest : List Byte} (hc : s.cycle = some c)
    (ha : c.slot.attempt = .listening w n e taken) (hm : MeasuresOut kind payload)
    (hstill : stillToCome taken (0x5C#8 :: address :: kind :: (payload ++ [hi, lo])) rest) :
    feedChain rest s = .next (s.replyByte c w n e (address :: kind :: (payload ++ [hi, lo]))) :=
  feedChain_stillToCome hc ha hstill (List.cons_ne_nil _ _) (replyProgress_of_initial hm address hi lo)

theorem replyProgress_replyBytes {kind : Byte} {payload : List Byte} (h : MeasuresOut kind payload) (face : FaceNo) :
    replyProgress (replyBytes face kind payload) = .complete := replyProgress_complete h _ _ _

/-- A good frame from the face of the slot. -/
theorem feedChain_good {s : State} {c : Cycle} {w n : Nat} {e : Bool} {taken : Option (List Byte)} {kind : Byte}
    {payload rest : List Byte} (hc : s.cycle = some c) (ha : c.slot.attempt = .listening w n e taken)
    (hm : MeasuresOut kind payload)
    (hstill : stillToCome taken (chainFrame (BitVec.ofNat 8 c.slot.face.val) (kind :: payload)) rest) :
    feedChain rest s = .next (s.replyByte c w n e (replyBytes c.slot.face kind payload)) :=
  feedChain_measured hc ha hm hstill

/-- Settles O40: the reply's frame is measured out by its flags, and read back field by field. -/
theorem replyByteByByteIsValid : Obligations.ReplyByteByByteIsValid := by
  unfold Obligations.ReplyByteByByteIsValid
  intro s c w n e taken reply spare rest hc ha hfits hstill
  obtain ⟨kind, payload, hbody, hjudged⟩ := reply_judged hfits spare
  rw [hbody] at hstill
  rw [feedChain_good hc ha hjudged.measured hstill,
    replyByte_of_valid s c w n e (replyProgress_replyBytes hjudged.measured _) (hjudged.judged _)]

/-! ### Everything else that can arrive -/

/-- R16: a frame to a wrong address or with a bad CRC. -/
theorem judgeReply_of_wrong {face : FaceNo} {address kind hi lo : Byte} {payload : List Byte}
    (h : address ≠ BitVec.ofNat 8 face.val ∨ [hi, lo] ≠ crcBytes (crcOf (address :: kind :: payload))) :
    judgeReply face (address :: kind :: (payload ++ [hi, lo])) = .corrupt := by
  rcases h with haddress | hcrc
  · refine judgeReply_of_badAddress fun heq => haddress (BitVec.eq_of_toNat_eq ?_)
    rw [heq, ofNat_face_toNat]
  · exact judgeReply_of_badCrc face (body := address :: kind :: payload) hcrc

theorem feedChain_wrong {s : State} {c : Cycle} {w n : Nat} {e : Bool} {taken : Option (List Byte)} {address hi lo : Byte}
    {body rest : List Byte} (hc : s.cycle = some c) (ha : c.slot.attempt = .listening w n e taken)
    (hbody : (∃ (reply : FaceReply) (spare : Byte), reply.fits = true ∧ body = reply.body spare) ∨ body = [0x83#8])
    (hwrong : address ≠ BitVec.ofNat 8 c.slot.face.val ∨ [hi, lo] ≠ crcBytes (crcOf (address :: body)))
    (hstill : stillToCome taken (0x5C#8 :: address :: (body ++ [hi, lo])) rest) :
    feedChain rest s = .next (s.attemptOver c .corrupt) := by
  obtain ⟨kind, payload, rfl, hm⟩ : ∃ kind payload, body = kind :: payload ∧ MeasuresOut kind payload := by
    rcases hbody with ⟨reply, spare, hfits, rfl⟩ | rfl
    · obtain ⟨kind, payload, h, hjudged⟩ := reply_judged hfits spare
      exact ⟨kind, payload, h, hjudged.measured⟩
    · exact ⟨0x83#8, [], rfl, wait_judged.measured⟩
  rw [feedChain_measured hc ha hm hstill,
    replyByte_of_corrupt s c w n e (replyProgress_complete hm address hi lo) (judgeReply_of_wrong hwrong)]

/-- R16: a kind that is none measures out nothing. -/
theorem replyPayloadLength_unknown {kind : Byte} (h1 : kind ≠ 0x81#8) (h2 : kind ≠ 0x82#8) (h3 : kind ≠ 0x83#8)
    (flags : Option Byte) : replyPayloadLength kind flags = none := by
  have hne : ∀ v : Byte, kind ≠ v → kind.toNat ≠ v.toNat := fun v h heq => h (BitVec.eq_of_toNat_eq heq)
  unfold replyPayloadLength
  split
  · rename_i h; exact absurd h (hne 0x81#8 h1)
  · rename_i h; exact absurd h (hne 0x82#8 h2)
  · rename_i h; exact absurd h (hne 0x83#8 h3)
  · rfl

theorem feedChain_unknownKind {s : State} {c : Cycle} {w n : Nat} {e : Bool} {taken : Option (List Byte)} {address kind : Byte}
    {rest : List Byte} (hc : s.cycle = some c) (ha : c.slot.attempt = .listening w n e taken) (h1 : kind ≠ 0x81#8)
    (h2 : kind ≠ 0x82#8) (h3 : kind ≠ 0x83#8) (hstill : stillToCome taken [0x5C#8, address, kind] rest) :
    feedChain rest s = .next (s.attemptOver c .corrupt) := by
  have hmore : ∀ p q, q ≠ [] → [address, kind] = p ++ q → replyProgress p = .more := by
    rintro (_ | ⟨a, _ | ⟨k, p⟩⟩) q hq hpq
    · rfl
    · rfl
    · exact absurd (List.append_eq_nil_iff.mp (by simpa using congrArg List.length hpq)).2 hq
  have hbad : replyProgress [address, kind] = .badKind := by
    simp only [replyProgress, replyPayloadLength_unknown h1 h2 h3]
  rw [feedChain_stillToCome hc ha hstill (List.cons_ne_nil _ _) hmore, replyByte_of_badKind s c w n e hbad]

/-- Settles O41: bytes before a start byte, frames that are wrong, kinds that are none, and WAITs. -/
theorem otherBytesInTheWindow : Obligations.OtherBytesInTheWindow := by
  unfold Obligations.OtherBytesInTheWindow
  intro s c w n e taken hc ha
  refine ⟨?_, ?_, ?_, ?_⟩
  · rintro rfl
    refine ⟨fun b hb => ?_, ?_⟩
    · rw [exec_chainByte_waiting hc ha, if_neg hb]
    · rw [exec_chainByte_waiting hc ha, if_pos rfl]
  · intro address hi lo body rest hbody hwrong hstill
    exact feedChain_wrong hc ha hbody hwrong hstill
  · intro address kind rest h1 h2 h3 hstill
    exact feedChain_unknownKind hc ha h1 h2 h3 hstill
  · intro rest hstill
    rw [feedChain_good hc ha wait_judged.measured hstill,
      replyByte_of_wait s c w n e (replyProgress_replyBytes wait_judged.measured _) (wait_judged.judged _), takeWait_eq]

/-! ### The frame on the chain (R11) -/

theorem bytes2_eq (v : Nat) : bytes2 v = fieldBytes 2 v := by simp [bytes2, fieldBytes]

theorem bytes1_eq (v : Nat) : bytes1 v = fieldBytes 1 v := by simp [bytes1, fieldBytes]

theorem chainOut_of_sending {s : State} {c : Cycle} (hc : s.cycle = some c) (ha : c.slot.attempt = .sending) :
    s.chainOut = some (c.slot.frame.bytes c.slot.face) := by
  simp only [State.chainOut, hc, ha, if_true]

theorem frameBytes_eq (f : ChainFrame) (face : FaceNo) : f.bytes face = chainFrame (BitVec.ofNat 8 face.val) f.body := rfl

/-- R12: while attempts remain a failed attempt leaves the identical frame on the chain. -/
theorem attemptOver_retry {s : State} {c : Cycle} {o : AttemptOutcome} (h : c.slot.outcomes.length + 1 < c.slot.permitted) :
    (s.attemptOver c o).chainOut = some (c.slot.frame.bytes c.slot.face) := by
  have hleft : (c.slot.outcomes ++ [o]).length < c.slot.permitted := by simpa using h
  unfold State.attemptOver
  dsimp only
  rw [if_pos hleft]
  exact chainOut_of_sending
    (c := { c with slot := { c.slot with outcomes := c.slot.outcomes ++ [o], attempt := .sending } }) rfl rfl

/-- Settles O38: by where the attempt of the slot in hand stands. -/
theorem frameOnTheChain : Obligations.FrameOnTheChain := by
  unfold Obligations.FrameOnTheChain
  refine ⟨fun s c hc ha => ⟨?_, ?_⟩, fun s h => ?_, fun s c o h => ?_⟩
  · simp [State.fde, hc, ha]
  · rw [chainOut_of_sending hc ha, frameBytes_eq]
    unfold ChainFrame.body
    rcases c.slot.frame with ⟨w, code, _ | p⟩ | _ | _ <;> simp only [bytes2_eq]
  · unfold State.fde State.chainOut
    cases hc : s.cycle with
    | none => exact ⟨rfl, rfl⟩
    | some c =>
      have hattempt := h c hc
      exact ⟨beq_eq_false_iff_ne.mpr hattempt, if_neg hattempt⟩
  · rw [attemptFailed_eq]
    exact attemptOver_retry h

end Sys2Proof.Machine
end

section
/-! The chain's settings (O19, O22), the folding by the span (O23) and the proof generator (O42). -/

namespace Sys2Proof.Machine

/-! ### Requests that are taken -/

/-- R168, R169: a request taken leaves the state and the answer of its judgement. -/
theorem exec_taken {i : Instr} {r : Request} {s t : State} {a : Answer} (hi : i.request = some r) (h : s.takes r.kind.link)
    (hj : judgeKind r.kind r.payload s = (a, t)) : exec i s = .next (t.answered r.kind r.tag a) := by
  rw [exec_request hi, takeRequest_taken h.1 h.2, hj]
  rfl

theorem readBytes_two (a b : Byte) : readBytes [a, b] = word2 a b := by
  simp only [readBytes, word2, List.foldl_cons, List.foldl_nil]
  omega

theorem bne_eq_decide_ne (a b : Nat) : (a != b) = decide (a ≠ b) := by
  by_cases h : a = b <;> simp [h]

/-! ### Periods, retries and the hold-off (R1, R12, R27, R153) -/

theorem periodOf_eq (v : Nat) : periodOf v = max 50 (min (v - v % 10) 2000) := by unfold periodOf clamp; omega

theorem scanPeriodOf_eq (v : Nat) : scanPeriodOf v = max 100 (min (v - v % 50) 1000) := by unfold scanPeriodOf clamp; omega

/-- A count that starts at 0 is brought onto its range from above only. -/
theorem clamp_zero (hi v : Nat) : clamp 0 hi v = min v hi := Nat.zero_max _

theorem clamp_zero_ne (hi v : Nat) : (clamp 0 hi v != v) = decide (hi < v) := by
  rw [clamp_zero, bne_eq_decide_ne]
  congr 1
  exact propext (by omega)

theorem exec_setCycle {s : State} (h : s.takes .control) (tag a b : Byte) :
    exec (.setCycle tag [a, b]) s =
      .next (State.answered { s with period := periodOf (word2 a b) } .setCycle tag
        (.done (periodOf (word2 a b) != word2 a b) (bytes2 (periodOf (word2 a b))))) :=
  exec_taken (r := ⟨.setCycle, tag, [a, b]⟩) rfl h (by rw [← readBytes_two]; rfl)

theorem exec_setScan {s : State} (h : s.takes .control) (tag a b : Byte) :
    exec (.setScan tag [a, b]) s =
      .next (State.answered { s with scanPeriod := scanPeriodOf (word2 a b) } .setScan tag
        (.done (scanPeriodOf (word2 a b) != word2 a b) (bytes2 (scanPeriodOf (word2 a b))))) :=
  exec_taken (r := ⟨.setScan, tag, [a, b]⟩) rfl h (by rw [← readBytes_two]; rfl)

theorem exec_setRetries {s : State} (h : s.takes .control) (tag a : Byte) :
    exec (.setRetries tag [a]) s =
      .next (State.answered { s with retries := clamp 0 2 a.toNat } .setRetries tag
        (.done (clamp 0 2 a.toNat != a.toNat) (bytes1 (clamp 0 2 a.toNat)))) :=
  exec_taken (r := ⟨.setRetries, tag, [a]⟩) rfl h rfl

theorem exec_setHoldoff {s : State} (h : s.takes .control) (tag a : Byte) :
    exec (.setHoldoff tag [a]) s =
      .next (State.answered { s with holdoff := clamp 0 15 a.toNat } .setHoldoff tag
        (.done (clamp 0 15 a.toNat != a.toNat) (bytes1 (clamp 0 15 a.toNat)))) :=
  exec_taken (r := ⟨.setHoldoff, tag, [a]⟩) rfl h rfl

/-- Settles O19: by the length of the payload. -/
theorem periodSettings : Obligations.PeriodSettings := by
  unfold Obligations.PeriodSettings
  intro tag payload s h
  refine ⟨?_, ?_, ?_, ?_⟩
  · rcases payload with _ | ⟨a, _ | ⟨b, _ | ⟨c, rest⟩⟩⟩
    · rw [← bytes2_eq]; exact exec_taken (r := ⟨.setCycle, tag, []⟩) rfl h rfl
    · exact exec_taken (r := ⟨.setCycle, tag, [a]⟩) rfl h rfl
    · rw [exec_setCycle h, bne_eq_decide_ne, bytes2_eq, periodOf_eq]
    · exact exec_taken (r := ⟨.setCycle, tag, a :: b :: c :: rest⟩) rfl h rfl
  · rcases payload with _ | ⟨a, _ | ⟨b, _ | ⟨c, rest⟩⟩⟩
    · rw [← bytes2_eq]; exact exec_taken (r := ⟨.setScan, tag, []⟩) rfl h rfl
    · exact exec_taken (r := ⟨.setScan, tag, [a]⟩) rfl h rfl
    · rw [exec_setScan h, bne_eq_decide_ne, bytes2_eq, scanPeriodOf_eq]
    · exact exec_taken (r := ⟨.setScan, tag, a :: b :: c :: rest⟩) rfl h rfl
  · rcases payload with _ | ⟨a, _ | ⟨b, rest⟩⟩
    · rw [← bytes1_eq]; exact exec_taken (r := ⟨.setRetries, tag, []⟩) rfl h rfl
    · rw [exec_setRetries h, clamp_zero_ne, bytes1_eq, clamp_zero]
    · exact exec_taken (r := ⟨.setRetries, tag, a :: b :: rest⟩) rfl h rfl
  · rcases payload with _ | ⟨a, _ | ⟨b, rest⟩⟩
    · rw [← bytes1_eq]; exact exec_taken (r := ⟨.setHoldoff, tag, []⟩) rfl h rfl
    · rw [exec_setHoldoff h, clamp_zero_ne, bytes1_eq, clamp_zero]
    · exact exec_taken (r := ⟨.setHoldoff, tag, a :: b :: rest⟩) rfl h rfl

/-! ### Folding by the span (R20) -/

theorem faceIn_foldSet (n : Span) (m : FaceSet) (j : FaceNo) :
    faceIn (n.foldSet m) j = true ↔ ∃ i : FaceNo, faceIn m i = true ∧ i.val % n.size = j.val := by
  simp [Span.foldSet, faceIn_faceSetOf, List.any_eq_true, allFaces_mem, Span.fold, Fin.ext_iff]

/-- Settles O23: by membership in a set built by a test. -/
theorem foldingBySpan : Obligations.FoldingBySpan := by
  unfold Obligations.FoldingBySpan
  exact ⟨⟨rfl, rfl, rfl⟩, fun _ _ => rfl, faceIn_foldSet⟩

/-! ### A smaller span (R21, R22) -/

theorem losePlace_self (n : Span) (i : FaceNo) (s : State) :
    (State.losePlace n i s).faces.get i =
      if n.size ≤ i.val then
        { s.faces.get i with config := { (s.faces.get i).config with enabled := false }, dyn := FaceDynamic.cleared .offline }
      else s.faces.get i := by
  unfold State.losePlace Span.covers
  by_cases h : i.val < n.size
  · simp [h, Nat.not_le.mpr h]
  · simp [h, Nat.not_lt.mp h, State.goOffline]

theorem losePlace_other (n : Span) {i j : FaceNo} (h : j ≠ i) (s : State) :
    (State.losePlace n i s).faces.get j = s.faces.get j := by
  unfold State.losePlace
  split
  · rfl
  · simp [State.goOffline, h]

theorem losePlace_changeSet_self (n : Span) (i : FaceNo) (s : State) :
    faceIn (State.losePlace n i s).changeSet i = (faceIn s.changeSet i && !decide (n.size ≤ i.val)) := by
  unfold State.losePlace Span.covers
  by_cases h : i.val < n.size
  · simp [h, Nat.not_le.mpr h]
  · simp [h, Nat.not_lt.mp h, State.goOffline, faceIn_erase]

theorem losePlace_changeSet_other (n : Span) {i j : FaceNo} (h : j ≠ i) (s : State) :
    faceIn (State.losePlace n i s).changeSet j = faceIn s.changeSet j := by
  unfold State.losePlace
  split
  · rfl
  · simp [State.goOffline, faceIn_erase, h]

theorem losePlace_only (n : Span) (i : FaceNo) (s : State) :
    ∃ f c, State.losePlace n i s = { s with faces := f, changeSet := c } := by
  unfold State.losePlace
  split
  · exact ⟨s.faces, s.changeSet, rfl⟩
  · exact ⟨_, _, rfl⟩

/-- R22: the faces at or above a smaller span lose their places, as one change of the face table and the change set. -/
theorem eachFace_losePlace (n : Span) (s : State) :
    s.eachFace (State.losePlace n) =
      { s with
        faces := s.faces.mapNo (fun i f =>
          if n.size ≤ i.val then { f with config := { f.config with enabled := false }, dyn := FaceDynamic.cleared .offline }
          else f)
        changeSet := s.changeSet &&& ~~~(faceSetOf (fun i => decide (n.size ≤ i.val))) } := by
  obtain ⟨f, c, h⟩ : ∃ f c, s.eachFace (State.losePlace n) = { s with faces := f, changeSet := c } := by
    refine eachFace_keeps (P := fun t => ∃ f c, t = { s with faces := f, changeSet := c }) ?_ s ⟨s.faces, s.changeSet, rfl⟩
    rintro i t ⟨f, c, rfl⟩
    exact losePlace_only n i _
  have hfaces := eachFace_read (fun t i => t.faces.get i)
    (fun i f => if n.size ≤ i.val then
      { f with config := { f.config with enabled := false }, dyn := FaceDynamic.cleared .offline } else f)
    (losePlace_self n) (fun i j t hj => losePlace_other n hj t) s
  have hchanges := eachFace_read (fun t i => faceIn t.changeSet i) (fun i b => b && !decide (n.size ≤ i.val))
    (losePlace_changeSet_self n) (fun i j t hj => losePlace_changeSet_other n hj t) s
  rw [h] at hfaces hchanges ⊢
  congr 1
  · exact Table.ext_get fun i => by rw [Table.get_mapNo]; exact hfaces i
  · exact faceSet_ext fun i => by rw [faceIn_and_not, faceIn_faceSetOf]; exact hchanges i

theorem claimedAbove_eq_true (s : State) (n : Span) :
    s.claimedAbove n = true ↔ ∃ i : FaceNo, n.size ≤ i.val ∧ s.claims.get i ≠ none := by
  simp [State.claimedAbove, Span.covers, List.any_eq_true, allFaces_mem, Option.isSome_iff_ne_none]

/-- R21, test 2: the three spans there are. -/
theorem readSpan_cases (a : Byte) :
    a = 8#8 ∧ readSpan a = some .s8 ∨ a = 16#8 ∧ readSpan a = some .s16 ∨ a = 32#8 ∧ readSpan a = some .s32 ∨
      (a ≠ 8#8 ∧ a ≠ 16#8 ∧ a ≠ 32#8) ∧ readSpan a = none := by
  have hnat : ∀ v : Byte, a.toNat = v.toNat ↔ a = v := fun v => BitVec.toNat_inj
  unfold readSpan
  split
  · rename_i h; exact .inl ⟨(hnat 8#8).mp h, rfl⟩
  · rename_i h; exact .inr (.inl ⟨(hnat 16#8).mp h, rfl⟩)
  · rename_i h; exact .inr (.inr (.inl ⟨(hnat 32#8).mp h, rfl⟩))
  · rename_i h8 h16 h32
    exact .inr (.inr (.inr ⟨⟨fun h => h8 ((hnat 8#8).mpr h), fun h => h16 ((hnat 16#8).mpr h),
      fun h => h32 ((hnat 32#8).mpr h)⟩, rfl⟩))

theorem bytes1_size_of_readSpan {a : Byte} {n : Span} (h : readSpan a = some n) : bytes1 n.size = [a] := by
  rcases readSpan_cases a with ⟨rfl, hr⟩ | ⟨rfl, hr⟩ | ⟨rfl, hr⟩ | ⟨_, hr⟩ <;> rw [hr] at h <;> cases h <;> rfl

/-- R21, test 3, and R22: a span read in HALTED. -/
theorem exec_setSpan_of_read {s : State} {a : Byte} {n : Span} (h : s.takes .control) (hm : s.mode = .halted)
    (hr : readSpan a = some n) (tag : Byte) :
    exec (.setSpan tag [a]) s = .next (
      if n.size < s.span.size ∧ ∃ i : FaceNo, n.size ≤ i.val ∧ s.claims.get i ≠ none then
        s.answered .setSpan tag (.refused .wrongState)
      else if n.size < s.span.size then
        State.answered { s with
          span := n
          faces := s.faces.mapNo (fun i f =>
            if n.size ≤ i.val then { f with config := { f.config with enabled := false }, dyn := FaceDynamic.cleared .offline }
            else f)
          changeSet := s.changeSet &&& ~~~(faceSetOf (fun i => decide (n.size ≤ i.val))) } .setSpan tag (.done false [a])
      else State.answered { s with span := n } .setSpan tag (.done false [a])) := by
  have hjudge : judgeSetSpan [a] s =
      if n.size < s.span.size ∧ s.claimedAbove n = true then refuse .wrongState s
      else (.done false (bytes1 n.size), s.changeSpan n) := by
    simp only [judgeSetSpan, hm, hr, ne_eq, not_true_eq_false, if_false]
  simp only [claimedAbove_eq_true, bytes1_size_of_readSpan hr] at hjudge
  have htake : ∀ {b : Answer} {t : State}, judgeSetSpan [a] s = (b, t) →
      exec (.setSpan tag [a]) s = .next (t.answered .setSpan tag b) :=
    fun hj => exec_taken (r := ⟨.setSpan, tag, [a]⟩) rfl h hj
  split
  · rename_i hclaimed
    rw [if_pos hclaimed] at hjudge
    exact htake hjudge
  · rename_i hfree
    rw [if_neg hfree] at hjudge
    rw [htake hjudge, State.changeSpan, eachFace_losePlace]
    split <;> rfl

/-- Settles O22: the tests in R21's order. -/
theorem setSpan : Obligations.SetSpan := by
  unfold Obligations.SetSpan
  intro tag payload s h
  rcases payload with _ | ⟨a, _ | ⟨b, rest⟩⟩
  · rw [← bytes1_eq]; exact exec_taken (r := ⟨.setSpan, tag, []⟩) rfl h rfl
  · by_cases hm : s.mode = .halted
    · dsimp only
      rw [if_neg (not_not.mpr hm)]
      rcases readSpan_cases a with ⟨rfl, hr⟩ | ⟨rfl, hr⟩ | ⟨rfl, hr⟩ | ⟨⟨h8, h16, h32⟩, hr⟩
      · exact exec_setSpan_of_read h hm hr tag
      · exact exec_setSpan_of_read h hm hr tag
      · exact exec_setSpan_of_read h hm hr tag
      · rw [if_neg h8, if_neg h16, if_neg h32]
        refine exec_taken (r := ⟨.setSpan, tag, [a]⟩) rfl h ?_
        simp only [judgeKind, judgeSetSpan, hm, hr, ne_eq, not_true_eq_false, if_false, refuse]
    · dsimp only
      rw [if_pos hm]
      refine exec_taken (r := ⟨.setSpan, tag, [a]⟩) rfl h ?_
      simp only [judgeKind, judgeSetSpan, ne_eq, hm, not_false_eq_true, if_true, refuse]
  · exact exec_taken (r := ⟨.setSpan, tag, a :: b :: rest⟩) rfl h rfl

/-! ### The proof generator (R25) -/

/-- One step doubles the register modulo its size and lets the feedback bit in below. -/
theorem proofStep_toNat (r : BitVec 15) :
    (proofStep r).toNat = 2 * r.toNat % 32768 + (if r.getLsbD 14 ≠ r.getLsbD 13 then 1 else 0) := by
  have hshift : (r <<< 1).toNat = 2 ^ 1 * (r.toNat % 16384) := by
    rw [BitVec.toNat_shiftLeft, Nat.shiftLeft_eq]
    omega
  have hfeed : (if (r.getLsbD 14 ^^ r.getLsbD 13) then 1#15 else 0#15).toNat =
      if r.getLsbD 14 ≠ r.getLsbD 13 then 1 else 0 := by
    cases r.getLsbD 14 <;> cases r.getLsbD 13 <;> rfl
  have hlt : (if r.getLsbD 14 ≠ r.getLsbD 13 then 1 else 0) < 2 ^ 1 := by split <;> decide
  rw [proofStep, BitVec.toNat_or, hshift, hfeed, ← Nat.two_pow_add_eq_or_of_lt hlt]
  omega

theorem proofDraw_register (n : Nat) (w : BitVec 16) (r : BitVec 15) : (proofDraw n w r).2 = proofStep^[n] r := by
  induction n generalizing w r with
  | zero => rfl
  | succ n ih => rw [proofDraw, ih, Function.iterate_succ_apply]

theorem proofDraw_shifted_bit (w : BitVec 16) (b : Bool) {j : Nat} (h : j < 16) :
    ((w <<< 1) ||| (if b then 1#16 else 0#16)).getLsbD j = if j = 0 then b else w.getLsbD (j - 1) := by
  have hbit : (if b then 1#16 else 0#16).getLsbD j = (decide (j = 0) && b) := by
    cases b <;> simp [BitVec.getLsbD_one]
  rw [BitVec.getLsbD_or, BitVec.getLsbD_shiftLeft, hbit]
  by_cases hj : j = 0
  · subst hj; simp
  · have hpos : ¬ j < 1 := by omega
    simp [hj, hpos, h]

/-- What stood in the word is shifted up by the outputs drawn. -/
theorem proofDraw_old_bit (n : Nat) (w : BitVec 16) (r : BitVec 15) {j : Nat} (h : n + j < 16) :
    (proofDraw n w r).1.getLsbD (n + j) = w.getLsbD j := by
  induction n generalizing w r j with
  | zero => rw [Nat.zero_add]; rfl
  | succ n ih =>
    have hj : n + 1 + j = n + (j + 1) := by omega
    rw [proofDraw, hj, ih _ _ (by omega), proofDraw_shifted_bit w _ (by omega)]
    rfl

/-- The outputs drawn stand in the word, the first the most significant. -/
theorem proofDraw_new_bit (n : Nat) (w : BitVec 16) (r : BitVec 15) {k : Nat} (hk : k < n) (hn : n ≤ 16) :
    (proofDraw n w r).1.getLsbD (n - 1 - k) = (proofStep^[k] r).getLsbD 14 := by
  induction n generalizing w r k with
  | zero => exact absurd hk (Nat.not_lt_zero k)
  | succ n ih =>
    rw [proofDraw]
    cases k with
    | zero =>
      have hold := proofDraw_old_bit n ((w <<< 1) ||| (if r.getLsbD 14 then 1#16 else 0#16)) (proofStep r) (j := 0) (by omega)
      rw [proofDraw_shifted_bit w _ (by decide)] at hold
      exact hold
    | succ k =>
      have hindex : n + 1 - 1 - (k + 1) = n - 1 - k := by omega
      rw [hindex, ih _ _ (by omega) (by omega), Function.iterate_succ_apply]

/-- Settles O42: by induction on the outputs drawn. -/
theorem proofGenerator : Obligations.ProofGenerator := by
  unfold Obligations.ProofGenerator
  refine ⟨proofStep_toNat, fun r k => ?_, fun r => proofDraw_register 16 0#16 r, fun cause straps s => ⟨rfl, rfl⟩⟩
  exact proofDraw_new_bit 16 0#16 r k.isLt (Nat.le_refl 16)

end Sys2Proof.Machine
end

section
/-! Requests on time, zones, sensors and curves (O18, O20, O21): the reply data field by field, and a payload read back by its presence
mask. -/

namespace Sys2Proof.Machine

/-! ### Reply data (R172) -/

theorem bytes3_eq (v : Nat) : bytes3 v = fieldBytes 3 v := by simp [bytes3, fieldBytes]

theorem byteOption_eq {n : Nat} {f : Nat → List Byte} (h : ∀ v, f v = fieldBytes n v) (o : Option Nat) :
    byteOption n f o = maybeBytes n o := by
  cases o with
  | none => rfl
  | some v => exact congrArg (1#8 :: ·) (h v)

theorem byteWidth_eq (w : Width) : byteWidth w = [w.byte] := by cases w <;> rfl

theorem byteSensorCode_eq (n : Option SensorNo) : byteSensorCode n = [BitVec.ofNat 8 ((n.map Fin.val).getD 255)] := by
  cases n <;> rfl

theorem byteZoneConfig_eq (c : ZoneConfig) : byteZoneConfig c = c.layout := by
  simp only [byteZoneConfig, ZoneConfig.layout, byteSensorCode_eq, bytes1_eq, bytes2_eq, bytes3_eq, byteWidth_eq]
  rfl

theorem bytes1_source (x : Source) : bytes1 x.no = [x.code] := by cases x <;> rfl

theorem fieldBytes_health (h : Health) : fieldBytes 1 h.no = [h.code] := by cases h <;> rfl

theorem zoneData_eq (s : State) (n : ZoneNo) :
    s.zoneData n = (s.zones.get n).config.layout ++ fieldBytes 3 (s.zones.get n).ambient ++
      [(s.zones.get n).source.code, flagByte (s.zones.get n).disagree, flagByte s.curfew] := by
  simp only [State.zoneData, byteZoneConfig_eq, bytes3_eq, bytes1_source, List.append_assoc]
  rfl

theorem sensorData_eq (x : Sensor) :
    x.data = [x.health.code] ++ fieldBytes 1 x.missRun ++ fieldBytes 1 x.validRun ++ maybeBytes 3 x.reading := by
  simp only [Sensor.data, bytes1_eq, fieldBytes_health, byteOption_eq bytes3_eq]

theorem curveData_eq (c : Curve) :
    c.data = fieldBytes 1 c.live.length ++ c.live.flatMap (fun p => fieldBytes 3 p.x ++ fieldBytes 2 p.y)
      ++ [flagByte c.waiting.isSome] := by
  have hpoint : byteBreakpoint = fun p => fieldBytes 3 p.x ++ fieldBytes 2 p.y :=
    funext fun p => by rw [byteBreakpoint, bytes3_eq, bytes2_eq]
  rw [Curve.data, hpoint, bytes1_eq]
  rfl

/-! ### READ_ZONE, READ_SENSOR and READ_CURVE (R41, R56) -/

theorem judgeReadZone_one (a : Byte) (s : State) :
    judgeReadZone [a] s =
      (if h : a.toNat < 8 then .done false (s.zoneData ⟨a.toNat, h⟩) else .refused .badValue, s) := by
  by_cases h : a.toNat < 8 <;> simp [judgeReadZone, readZoneNo, h, answer, refuse]

theorem judgeReadSensor_one (a : Byte) (s : State) :
    judgeReadSensor [a] s =
      (if h : a.toNat < 4 then .done false (s.sensors.get ⟨a.toNat, h⟩).data else .refused .badValue, s) := by
  by_cases h : a.toNat < 4 <;> simp [judgeReadSensor, readSensorNo, h, answer, refuse]

theorem judgeReadCurve_one (a : Byte) (s : State) :
    judgeReadCurve [a] s =
      (if h : a.toNat < 8 then .done false (s.curves.get ⟨a.toNat, h⟩).data else .refused .badValue, s) := by
  by_cases h : a.toNat < 8 <;> simp [judgeReadCurve, readCurveNo, h, answer, refuse]

/-- Settles O21: by the length of the payload. -/
theorem readZoneSensorCurve : Obligations.ReadZoneSensorCurve := by
  unfold Obligations.ReadZoneSensorCurve
  intro tag payload s h
  refine ⟨?_, ?_, ?_⟩
  · rcases payload with _ | ⟨a, _ | ⟨b, rest⟩⟩
    · exact exec_taken (r := ⟨.readZone, tag, []⟩) rfl h rfl
    · rw [exec_taken (r := ⟨.readZone, tag, [a]⟩) rfl h (judgeReadZone_one a s)]
      simp only [zoneData_eq]
    · exact exec_taken (r := ⟨.readZone, tag, a :: b :: rest⟩) rfl h rfl
  · rcases payload with _ | ⟨a, _ | ⟨b, rest⟩⟩
    · exact exec_taken (r := ⟨.readSensor, tag, []⟩) rfl h rfl
    · rw [exec_taken (r := ⟨.readSensor, tag, [a]⟩) rfl h (judgeReadSensor_one a s)]
      simp only [sensorData_eq]
    · exact exec_taken (r := ⟨.readSensor, tag, a :: b :: rest⟩) rfl h rfl
  · rcases payload with _ | ⟨a, _ | ⟨b, rest⟩⟩
    · exact exec_taken (r := ⟨.readCurve, tag, []⟩) rfl h rfl
    · rw [exec_taken (r := ⟨.readCurve, tag, [a]⟩) rfl h (judgeReadCurve_one a s)]
      simp only [curveData_eq]
    · exact exec_taken (r := ⟨.readCurve, tag, a :: b :: rest⟩) rfl h rfl

/-! ### SET_TIME and SET_CURFEW (R44, R45) -/

theorem readBytes_three (a b c : Byte) : readBytes [a, b, c] = word3 a b c := by
  simp only [readBytes, word3, List.foldl_cons, List.foldl_nil]
  omega

theorem bytes3_word3 (a b c : Byte) : bytes3 (word3 a b c) = [a, b, c] := by
  have ha := a.isLt
  have hb := b.isLt
  have hc := c.isLt
  have high : BitVec.ofNat 8 (word3 a b c / 65536) = a := BitVec.eq_of_toNat_eq (by
    rw [BitVec.toNat_ofNat, word3]; omega)
  have middle : BitVec.ofNat 8 (word3 a b c / 256) = b := BitVec.eq_of_toNat_eq (by
    rw [BitVec.toNat_ofNat, word3]; omega)
  have low : BitVec.ofNat 8 (word3 a b c) = c := BitVec.eq_of_toNat_eq (by
    rw [BitVec.toNat_ofNat, word3]; omega)
  rw [bytes3, high, middle, low]

theorem judgeSetTime_three (a b c : Byte) (s : State) :
    judgeSetTime [a, b, c] s =
      if 86399 < word3 a b c then (.refused .badValue, s)
      else (.done false [a, b, c], { s with dayClock := some (word3 a b c) }) := by
  simp only [judgeSetTime, readBytes_three, bytes3_word3, refuse]

theorem judgeSetCurfew_six (a b c d e f : Byte) (s : State) :
    judgeSetCurfew [a, b, c, d, e, f] s =
      (.done (decide (86399 < word3 a b c ∨ 86399 < word3 d e f))
          (fieldBytes 3 (min (word3 a b c) 86399) ++ fieldBytes 3 (min (word3 d e f) 86399)),
        { s with curfewStart := min (word3 a b c) 86399, curfewEnd := min (word3 d e f) 86399 }) := by
  simp only [Bool.decide_or, ← clamp_zero_ne, ← clamp_zero, ← bytes3_eq, ← readBytes_three]
  rfl

/-- Settles O18: by the length of the payload. -/
theorem timeSettings : Obligations.TimeSettings := by
  unfold Obligations.TimeSettings
  intro tag payload s h
  rw [exec_taken (r := ⟨.setTime, tag, payload⟩) rfl h (a := (judgeSetTime payload s).1) (t := (judgeSetTime payload s).2) rfl,
    exec_taken (r := ⟨.setCurfew, tag, payload⟩) rfl h (a := (judgeSetCurfew payload s).1) (t := (judgeSetCurfew payload s).2) rfl]
  refine ⟨?_, ?_⟩
  · rcases payload with _ | ⟨a, _ | ⟨b, _ | ⟨c, _ | ⟨d, rest⟩⟩⟩⟩
    · rw [← byteOption_eq bytes3_eq]; rfl
    · rfl
    · rfl
    · rw [judgeSetTime_three]
      dsimp only
      split <;> rfl
    · rfl
  · rcases payload with _ | ⟨a, _ | ⟨b, _ | ⟨c, _ | ⟨d, _ | ⟨e, _ | ⟨f, _ | ⟨g, rest⟩⟩⟩⟩⟩⟩⟩
    · rw [← bytes3_eq, ← bytes3_eq]; rfl
    · rfl
    · rfl
    · rfl
    · rfl
    · rfl
    · rw [judgeSetCurfew_six]
    · rfl

end Sys2Proof.Machine
end

section
/-! SET_ZONE (O20): a payload's fields read back by its presence mask, and R39's tests in their order. -/

namespace Sys2Proof.Machine

/-! ### The fields that a presence mask marks (R172) -/

/-- The present fields of a payload are read back, whatever stands in the mask above the last field. -/
theorem readFields_presentBytes {sizes : List Nat} {fs : List (Option Nat)} (h : fieldsFit sizes fs = true) (spare : Nat) :
    readFields (presence fs + 2 ^ fs.length * spare) sizes (presentBytes sizes fs) = some fs := by
  induction sizes generalizing fs with
  | nil =>
    cases fs with
    | nil => rfl
    | cons f fs => cases h
  | cons n ns ih =>
    cases fs with
    | nil => cases h
    | cons f fs =>
      simp only [fieldsFit, Bool.and_eq_true] at h
      obtain ⟨hfit, hrest⟩ := h
      have hpow : 2 ^ (f :: fs).length * spare = 2 * (2 ^ fs.length * spare) := by rw [List.length_cons]; ring
      cases f with
      | none =>
        have hmask : presence (none :: fs) + 2 ^ (none :: fs).length * spare = 2 * (presence fs + 2 ^ fs.length * spare) := by
          rw [hpow]; show 0 + 2 * presence fs + _ = _; ring
        have hodd : ¬ 2 * (presence fs + 2 ^ fs.length * spare) % 2 = 1 := by omega
        rw [hmask, readFields, if_neg hodd, Nat.mul_div_cancel_left _ Nat.two_pos, presentBytes, ih hrest, Option.map_some]
      | some v =>
        have hmask : presence (some v :: fs) + 2 ^ (some v :: fs).length * spare =
            2 * (presence fs + 2 ^ fs.length * spare) + 1 := by
          rw [hpow]; show 1 + 2 * presence fs + _ = _; ring
        have hodd : (2 * (presence fs + 2 ^ fs.length * spare) + 1) % 2 = 1 := by omega
        have hhalf : (2 * (presence fs + 2 ^ fs.length * spare) + 1) / 2 = presence fs + 2 ^ fs.length * spare := by omega
        have hlen := length_fieldBytes n v
        have hv : v < 256 ^ n := by simpa using hfit
        have hroom : ¬ (fieldBytes n v ++ presentBytes ns fs).length < n := by rw [List.length_append, hlen]; omega
        rw [hmask, readFields, if_pos hodd, hhalf, presentBytes, if_neg hroom, List.drop_left' hlen, List.take_left' hlen,
          ih hrest, readBytes_fieldBytes n v hv, Option.map_some]

/-- Fields are read only from as many bytes as the mask marks. -/
theorem length_of_readFields {sizes : List Nat} {mask : Nat} {bs : List Byte} {fs : List (Option Nat)}
    (h : readFields mask sizes bs = some fs) : bs.length = markedBytes sizes mask := by
  induction sizes generalizing mask bs fs with
  | nil =>
    cases bs with
    | nil => rfl
    | cons b bs => cases h
  | cons n ns ih =>
    rw [readFields] at h
    rw [markedBytes]
    split at h
    · rename_i hodd
      split at h
      · cases h
      · rename_i hroom
        obtain ⟨gs, hgs, _⟩ := Option.map_eq_some_iff.mp h
        have hrest := ih hgs
        rw [List.length_drop] at hrest
        rw [if_pos hodd, ← hrest]
        omega
    · rename_i heven
      obtain ⟨gs, hgs, _⟩ := Option.map_eq_some_iff.mp h
      rw [if_neg heven, ih hgs, Nat.zero_add]

theorem presence_lt (fs : List (Option Nat)) : presence fs < 2 ^ fs.length := by
  induction fs with
  | nil => decide
  | cons f fs ih =>
    rw [presence, List.length_cons, pow_succ]
    split <;> omega

theorem zoneFields_length (f : ZoneFields) : f.list.length = 10 := rfl

theorem readZoneFields_presentBytes {f : ZoneFields} (h : fieldsFit zoneSizes f.list = true) (spare : Nat) :
    readZoneFields (presence f.list + 1024 * spare) (presentBytes zoneSizes f.list) = some f := by
  have hread := readFields_presentBytes h spare
  rw [zoneFields_length, show 2 ^ 10 = 1024 from rfl] at hread
  unfold readZoneFields
  rw [show ([1, 1, 3, 1, 1, 2, 2, 1, 1, 1] : List Nat) = zoneSizes from rfl, hread]
  rfl

theorem judgeSetZone_of_fields {f : ZoneFields} {spare : Nat} (hs : spare < 64) (h : fieldsFit zoneSizes f.list = true)
    (zone : Byte) (s : State) : judgeSetZone (zonePayload zone spare f) s = judgeZoneFields zone f s := by
  have hp := presence_lt f.list
  rw [zoneFields_length] at hp
  have hmask : readBytes (fieldBytes 2 (presence f.list + 1024 * spare)) = presence f.list + 1024 * spare :=
    readBytes_fieldBytes 2 _ (by omega)
  simp only [fieldBytes] at hmask
  simp only [zonePayload, fieldBytes, List.cons_append, List.nil_append, judgeSetZone, hmask, readZoneFields_presentBytes h]

theorem judgeSetZone_of_badLength {hi lo : Byte} {rest : List Byte} (h : rest.length ≠ markedBytes zoneSizes (word2 hi lo))
    (zone : Byte) (s : State) : judgeSetZone (zone :: hi :: lo :: rest) s = (.refused .badLength, s) := by
  have hnone : readFields (readBytes [hi, lo]) zoneSizes rest = none :=
    Option.eq_none_iff_forall_ne_some.mpr fun fs hfs => h (by rw [length_of_readFields hfs, readBytes_two])
  have hread : readZoneFields (readBytes [hi, lo]) rest = none := by
    unfold readZoneFields
    rw [show ([1, 1, 3, 1, 1, 2, 2, 1, 1, 1] : List Nat) = zoneSizes from rfl, hnone]
  simp only [judgeSetZone, hread, refuse]

/-! ### The fields' tests and their storing (R39) -/

/-- R39, test 2: a sensor code that is neither 0 to 3 nor none. -/
def badSensorCode (f : Option Nat) : Bool := f.any (fun n => decide (4 ≤ n ∧ n ≠ 255))

/-- R39, test 3: a width that is neither 8 nor 12. -/
def badWidth (f : Option Nat) : Bool := f.any (fun n => decide (n ≠ 8 ∧ n ≠ 12))

theorem readSensorCode_isSome (v : Nat) : (readSensorCode v).isSome = !decide (4 ≤ v ∧ v ≠ 255) := by
  unfold readSensorCode
  by_cases hnone : v = 255
  · simp [hnone]
  · by_cases hfour : v < 4
    · simp [hnone, hfour]
    · simp [hnone, hfour, Nat.not_lt.mp hfour]

theorem readWidth_cases (v : Nat) :
    v = 8 ∧ readWidth v = some .w8 ∨ v = 12 ∧ readWidth v = some .w12 ∨ (v ≠ 8 ∧ v ≠ 12) ∧ readWidth v = none := by
  unfold readWidth
  split
  · exact .inl ⟨rfl, rfl⟩
  · exact .inr (.inl ⟨rfl, rfl⟩)
  · rename_i h8 h12; exact .inr (.inr ⟨⟨h8, h12⟩, rfl⟩)

theorem sensorsGood_eq_false (f : ZoneFields) :
    f.sensorsGood = false ↔ badSensorCode f.primary = true ∨ badSensorCode f.secondary = true := by
  have hone : ∀ o : Option Nat, o.all (fun v => (readSensorCode v).isSome) = !badSensorCode o := by
    rintro (_ | v)
    · rfl
    · exact readSensorCode_isSome v
  rw [ZoneFields.sensorsGood, hone, hone]
  cases badSensorCode f.primary <;> cases badSensorCode f.secondary <;> decide

theorem widthGood_eq_false (f : ZoneFields) : f.widthGood = false ↔ badWidth f.width = true := by
  unfold ZoneFields.widthGood badWidth
  rcases f.width with _ | v
  · simp
  · rcases readWidth_cases v with ⟨rfl, hr⟩ | ⟨rfl, hr⟩ | ⟨hv, hr⟩
    · simp [hr]
    · simp [hr]
    · simp [hr, hv]

/-- R39, test 4: a width other than the zone's. -/
theorem changesWidth_iff {f : ZoneFields} (h : badWidth f.width = false) (c : ZoneConfig) :
    f.changesWidth c = true ↔ f.width = some 8 ∧ c.width = .w12 ∨ f.width = some 12 ∧ c.width = .w8 := by
  unfold ZoneFields.changesWidth
  rcases hf : f.width with _ | v
  · simp
  · rcases readWidth_cases v with ⟨rfl, hr⟩ | ⟨rfl, hr⟩ | ⟨hv, _⟩
    · cases c.width <;> simp [hr]
    · cases c.width <;> simp [hr]
    · rw [hf] at h; simp [badWidth, hv] at h

theorem storeField_eq_stored (lo hi old : Nat) (f : Option Nat) : storeField lo hi old f = stored lo hi old f := by
  cases f <;> rfl

theorem fieldClamped_eq_outside {lo hi : Nat} (h : lo ≤ hi) (f : Option Nat) : fieldClamped lo hi f = outside lo hi f := by
  cases f with
  | none => rfl
  | some v =>
    show (clamp lo hi v != v) = (decide (v < lo) || decide (hi < v))
    rw [bne_eq_decide_ne, ← Bool.decide_or]
    congr 1
    unfold clamp
    exact propext (by omega)

/-- A sensor code stored, any number above 3 naming none. -/
def storedSensor (old : Option SensorNo) : Option Nat → Option SensorNo
  | none => old
  | some v => if h : v < 4 then some ⟨v, h⟩ else none

/-- A width stored, any number but 12 being 8. -/
def storedWidth (old : Width) : Option Nat → Width
  | none => old
  | some v => if v = 12 then .w12 else .w8

theorem sensorCode_stored {f : Option Nat} (h : badSensorCode f = false) (old : Option SensorNo) :
    (f.bind readSensorCode).getD old = storedSensor old f := by
  cases f with
  | none => rfl
  | some v =>
    simp only [badSensorCode, Option.any_some, decide_eq_false_iff_not, not_and, not_not] at h
    by_cases hfour : v < 4
    · have hsome : v ≠ 255 := by omega
      simp [readSensorCode, storedSensor, hsome, hfour]
    · simp [readSensorCode, storedSensor, h (Nat.not_lt.mp hfour)]

theorem width_stored {f : Option Nat} (h : badWidth f = false) (old : Width) :
    (f.bind readWidth).getD old = storedWidth old f := by
  cases f with
  | none => rfl
  | some v =>
    rcases readWidth_cases v with ⟨rfl, _⟩ | ⟨rfl, _⟩ | ⟨hv, _⟩
    · rfl
    · rfl
    · simp [badWidth, hv] at h

/-- R39: what a request that passed its tests leaves of the configuration. -/
theorem store_eq_updated {f : ZoneFields} (hp : badSensorCode f.primary = false) (hs : badSensorCode f.secondary = false)
    (hw : badWidth f.width = false) (c : ZoneConfig) : f.store c = c.updated f := by
  unfold ZoneFields.store ZoneConfig.updated
  simp only [storeField_eq_stored, sensorCode_stored hp, sensorCode_stored hs, width_stored hw]
  rfl

theorem clamped_eq (f : ZoneFields) :
    f.clamped = (outside 0 100000 f.fallback || outside 1 16 f.rising || outside 1 16 f.falling || outside 0 10000 f.zoneCap
      || outside 0 10000 f.curfewCap || outside 0 3 f.extension || outside 0 8 f.dmax) := by
  unfold ZoneFields.clamped
  rw [fieldClamped_eq_outside (Nat.zero_le 100000), fieldClamped_eq_outside (by decide : 1 ≤ 16),
    fieldClamped_eq_outside (by decide : 1 ≤ 16), fieldClamped_eq_outside (Nat.zero_le 10000),
    fieldClamped_eq_outside (Nat.zero_le 10000), fieldClamped_eq_outside (Nat.zero_le 3), fieldClamped_eq_outside (Nat.zero_le 8)]

/-- R39: the tests in their order, and the storing. -/
theorem judgeZoneFields_of_number {zone : Byte} (h : zone.toNat < 8) (f : ZoneFields) (s : State) :
    judgeZoneFields zone f s =
      let z := s.zones.get ⟨zone.toNat, h⟩
      if badSensorCode f.primary = true ∨ badSensorCode f.secondary = true then (.refused .badValue, s)
      else if badWidth f.width = true then (.refused .badValue, s)
      else if (f.width = some 8 ∧ z.config.width = .w12 ∨ f.width = some 12 ∧ z.config.width = .w8) ∧ s.mode ≠ .halted then
        (.refused .wrongMode, s)
      else
        (.done (outside 0 100000 f.fallback || outside 1 16 f.rising || outside 1 16 f.falling || outside 0 10000 f.zoneCap
            || outside 0 10000 f.curfewCap || outside 0 3 f.extension || outside 0 8 f.dmax) (z.config.updated f).layout,
          { s with zones := s.zones.set ⟨zone.toNat, h⟩ { z with config := z.config.updated f } }) := by
  simp only [judgeZoneFields, readZoneNo, h, dif_pos, sensorsGood_eq_false, widthGood_eq_false, refuse]
  by_cases hsensor : badSensorCode f.primary = true ∨ badSensorCode f.secondary = true
  · rw [if_pos (.inl hsensor), if_pos hsensor]
  · by_cases hwidth : badWidth f.width = true
    · rw [if_pos (.inr hwidth), if_neg hsensor, if_pos hwidth]
    · rw [if_neg (not_or.mpr ⟨hsensor, hwidth⟩), if_neg hsensor, if_neg hwidth]
      simp only [not_or, Bool.not_eq_true] at hsensor hwidth
      simp only [changesWidth_iff hwidth, store_eq_updated hsensor.1 hsensor.2 hwidth, clamped_eq, byteZoneConfig_eq]
      rfl

theorem judgeZoneFields_of_noNumber {zone : Byte} (h : ¬ zone.toNat < 8) (f : ZoneFields) (s : State) :
    judgeZoneFields zone f s = (.refused .badValue, s) := by
  simp only [judgeZoneFields, readZoneNo, h, dif_neg, not_false_eq_true, refuse]

/-- Settles O20: the fields read back from the payload, then the tests in R39's order. -/
theorem setZone : Obligations.SetZone := by
  unfold Obligations.SetZone
  intro tag s h
  have htake : ∀ {payload : List Byte} {a : Answer} {t : State}, judgeSetZone payload s = (a, t) →
      exec (.setZone tag payload) s = .next (t.answered .setZone tag a) :=
    fun {payload _ _} hj => exec_taken (r := ⟨.setZone, tag, payload⟩) rfl h hj
  refine ⟨fun zone spare f hspare hfit => ?_, fun payload hlen => ?_, fun zone hi lo rest hlen => ?_⟩
  · have hjudge := judgeSetZone_of_fields hspare hfit zone s
    split
    · rename_i hzone
      have htests := hjudge.trans (judgeZoneFields_of_number hzone f s)
      dsimp only
      split
      · rename_i hsensor; exact htake (htests.trans (if_pos hsensor))
      · rename_i hsensor
        replace htests := htests.trans (if_neg hsensor)
        split
        · rename_i hwidth; exact htake (htests.trans (if_pos hwidth))
        · rename_i hwidth
          replace htests := htests.trans (if_neg hwidth)
          split
          · rename_i hmode; exact htake (htests.trans (if_pos hmode))
          · rename_i hmode; exact htake (htests.trans (if_neg hmode))
    · rename_i hzone
      exact htake (hjudge.trans (judgeZoneFields_of_noNumber hzone f s))
  · rcases payload with _ | ⟨a, _ | ⟨b, _ | ⟨c, rest⟩⟩⟩
    · exact htake rfl
    · exact htake rfl
    · exact htake rfl
    · simp only [List.length_cons] at hlen; omega
  · exact htake (judgeSetZone_of_badLength hlen zone s)

end Sys2Proof.Machine
end

section
/-! The ambient filter (O53), the curfew test and the caps of the engine's levels (O45). -/

namespace Sys2Proof.Machine

/-! ### The filter's step (R34) -/

theorem filterStep_eq (a sample kf kr : Nat) :
    filterStep a sample kf kr = if sample < a then a - ((a - sample) * kf + 15) / 16
      else if a < sample then a + max 1 ((sample - a) * kr / 16) else a := by
  unfold filterStep ceilDiv
  by_cases hfall : sample < a
  · rw [if_pos hfall, if_pos hfall]; rfl
  · by_cases hrise : a < sample
    · rw [if_neg hfall, if_neg hfall, if_pos hrise, if_pos hrise]
      split <;> omega
    · rw [if_neg hfall, if_neg hfall, if_neg hrise, if_neg hrise]

/-- A falling step is at least 1 and at most the distance. -/
theorem fallingStep_bounds {d k : Nat} (hd : 0 < d) (h1 : 1 ≤ k) (h16 : k ≤ 16) :
    1 ≤ (d * k + 15) / 16 ∧ (d * k + 15) / 16 ≤ d := by
  have hlow : d * 1 ≤ d * k := Nat.mul_le_mul_left d h1
  have hhigh : d * k ≤ d * 16 := Nat.mul_le_mul_left d h16
  omega

/-- A rising step is at least 1 and at most the distance. -/
theorem risingStep_bounds {d k : Nat} (hd : 0 < d) (h16 : k ≤ 16) : 1 ≤ max 1 (d * k / 16) ∧ max 1 (d * k / 16) ≤ d := by
  have hhigh : d * k ≤ d * 16 := Nat.mul_le_mul_left d h16
  omega

theorem filterStep_falling {a sample kf kr : Nat} (h : sample < a) (h1 : 1 ≤ kf) (h16 : kf ≤ 16) :
    sample ≤ filterStep a sample kf kr ∧ filterStep a sample kf kr < a := by
  have hstep := fallingStep_bounds (d := a - sample) (by omega) h1 h16
  rw [filterStep_eq, if_pos h]
  omega

theorem filterStep_rising {a sample kf kr : Nat} (h : a < sample) (h16 : kr ≤ 16) :
    a < filterStep a sample kf kr ∧ filterStep a sample kf kr ≤ sample := by
  have hstep := risingStep_bounds (d := sample - a) (k := kr) (by omega) h16
  rw [filterStep_eq, if_neg (by omega), if_pos h]
  omega

theorem filterStep_level (a kf kr : Nat) : filterStep a a kf kr = a := by
  rw [filterStep_eq, if_neg (Nat.lt_irrefl a), if_neg (Nat.lt_irrefl a)]

/-- The estimate never leaves the range that it and the sample lie in. -/
theorem filterStep_le {a sample kf kr top : Nat} (h1 : 1 ≤ kf) (h16 : kf ≤ 16) (hr : kr ≤ 16) (ha : a ≤ top)
    (hs : sample ≤ top) : filterStep a sample kf kr ≤ top := by
  rcases Nat.lt_trichotomy sample a with h | rfl | h
  · exact (filterStep_falling h h1 h16).2.le.trans ha
  · rw [filterStep_level]; exact ha
  · exact (filterStep_rising h hr).2.trans hs

theorem filterStep_sixteen (a sample : Nat) : filterStep a sample 16 16 = sample := by
  rw [filterStep_eq]
  split
  · omega
  · split <;> omega

/-- Settles O53: by where the sample lies. -/
theorem ambientFilterStep : Obligations.FilterStep := by
  unfold Obligations.FilterStep
  intro a sample kf kr h1 h16 _ hr16
  refine ⟨filterStep_eq a sample kf kr, fun h => filterStep_falling h h1 h16, fun h => filterStep_rising h hr16,
    filterStep_le h1 h16 hr16, ?_⟩
  rintro rfl rfl
  exact filterStep_sixteen a sample

/-! ### The curfew test (R46) -/

theorem curfewTest_eq_true (clock : Option Nat) (start stop : Nat) :
    curfewTest clock start stop = true ↔
      match clock with
      | none => True
      | some t => (start < stop ∧ start ≤ t ∧ t < stop) ∨ (stop < start ∧ (start ≤ t ∨ t < stop)) := by
  cases clock with
  | none => exact iff_of_true rfl trivial
  | some t =>
    dsimp only [curfewTest]
    split
    · rw [decide_eq_true_eq]; omega
    · split
      · rw [decide_eq_true_eq]; omega
      · rw [iff_false_left Bool.false_ne_true]; omega

theorem curfew_of_unset {s : State} (h : s.dayClock = none) : s.curfew = true := by simp [State.curfew, h, curfewTest]

/-! ### Levels under the cap in force (R66, R68, R71) -/

/-- No cap that is in force lies below the cap in force. -/
theorem capInForce_le_curfewCap (face zone v : Nat) (thermal claim : Option Nat) :
    capInForce face zone (some v) thermal claim ≤ v := by
  cases thermal <;> cases claim <;> simp only [capInForce] <;> omega

theorem goalOf_value_le {state : FaceState} {claim : Option Claim} {cond : Conditioning} {cp cap step : Nat} (h : step ≤ 7) :
    (goalOf state claim cond cp cap step).value ≤ cap := by
  unfold goalOf
  split
  · exact Nat.zero_le cap
  · split
    · exact Nat.zero_le cap
    · cases cond with
      | normal => exact Nat.min_le_right _ _
      | fixed v => exact Nat.min_le_right _ _
      | blank => exact Nat.zero_le cap
      | pattern =>
        have hstep : step * cap ≤ 7 * cap := Nat.mul_le_mul_right cap h
        show step * cap / 7 ≤ cap
        omega

/-- R71: a level under a goal that lies under the cap lies under the cap. -/
theorem nextLevel_le {g : Goal} {cap : Nat} (h : g.value ≤ cap) (standing up down : Nat) :
    nextLevel g cap standing up down ≤ cap := by
  unfold nextLevel
  cases g.kind with
  | immediate => exact Nat.zero_le cap
  | direct => exact h
  | slewed =>
    dsimp only
    split
    · omega
    · split <;> omega

theorem levelFor_le_capFor {s : State} {i : FaceNo} (h : (s.faces.get i).dyn.patternStep ≤ 7) : s.levelFor i ≤ s.capFor i :=
  nextLevel_le (goalOf_value_le h) _ _ _

theorem capFor_le_curfewCap {s : State} (h : s.curfew = true) (i : FaceNo) :
    s.capFor i ≤ (s.zones.get (s.faces.get i).config.zone).config.curfewCap := by
  unfold State.capFor
  rw [h]
  exact capInForce_le_curfewCap _ _ _ _ _

/-- Settles O45: with the clock unset curfew is in force, and its cap bounds the level. -/
theorem curfew : Obligations.Curfew := by
  unfold Obligations.Curfew
  refine ⟨fun s => curfewTest_eq_true _ _ _, fun s i hclock hstep => ?_⟩
  exact (levelFor_le_capFor hstep).trans (capFor_le_curfewCap (curfew_of_unset hclock) i)

end Sys2Proof.Machine
end

section
/-! Scans and polls (O52). A change made record by record, each with its notice, is the change of the whole followed by the notices in
order: `foldl_notices_last`. The naming, the zone update and the one-second event of the claims are all of this kind. -/

namespace Sys2Proof.Machine

/-! ### Changes that do not look at the notices -/

/-- The part with everything replaced that a notice posted can change. -/
def State.withNotices (s : State) (q : List Notice) (c : FaceSet) (o : Bool) : State :=
  { s with queue := q, changeSet := c, otherLost := o }

/-- R149: what a notice posted leaves of the notices is settled by the seconds counter and the notices alone. -/
theorem post_determined (s : State) (b : NoticeBody) :
    ∃ q c o, ∀ t : State, t.seconds = s.seconds → t.queue = s.queue → t.changeSet = s.changeSet → t.otherLost = s.otherLost →
      t.post b = t.withNotices q c o := by
  rcases post_uniform s b with ⟨q, h⟩ | ⟨i, _, h⟩ | h
  · exact ⟨q, s.changeSet, s.otherLost, fun t hs hq hc ho => by rw [h t hs hq, ← hc, ← ho]; rfl⟩
  · exact ⟨s.queue, faceInsert s.changeSet i, s.otherLost, fun t hs hq hc ho => by rw [h t hs hq, ← hq, ← hc, ← ho]; rfl⟩
  · exact ⟨s.queue, s.changeSet, true, fun t hs hq hc _ => by rw [h t hs hq, ← hq, ← hc]; rfl⟩

/-- `u` neither reads nor writes what a notice posted reads and writes. -/
structure NoticeFree (u : State → State) : Prop where
  seconds : ∀ s, (u s).seconds = s.seconds
  notices : ∀ s q c o, u (s.withNotices q c o) = (u s).withNotices q c o

/-- A notice posted before such a change or after it. -/
theorem NoticeFree.post {u : State → State} (h : NoticeFree u) (s : State) (b : NoticeBody) : (u s).post b = u (s.post b) := by
  have hsame : u s = (u s).withNotices s.queue s.changeSet s.otherLost := h.notices s _ _ _
  have hqueue : (u s).queue = s.queue := by rw [hsame]; rfl
  have hchanges : (u s).changeSet = s.changeSet := by rw [hsame]; rfl
  have hlost : (u s).otherLost = s.otherLost := by rw [hsame]; rfl
  obtain ⟨q, c, o, e⟩ := post_determined s b
  rw [e (u s) (h.seconds s) hqueue hchanges hlost, e s rfl rfl rfl rfl, h.notices]

theorem postAll_cons (s : State) (b : NoticeBody) (l : List NoticeBody) : s.postAll (b :: l) = (s.post b).postAll l := rfl

theorem NoticeFree.postAll {u : State → State} (h : NoticeFree u) (l : List NoticeBody) (s : State) :
    (u s).postAll l = u (s.postAll l) := by
  induction l generalizing s with
  | nil => rfl
  | cons b l ih => rw [postAll_cons, postAll_cons, h.post, ih]

theorem NoticeFree.foldl {α : Type} {change : α → State → State} (h : ∀ a, NoticeFree (change a)) (l : List α) :
    NoticeFree (fun s => l.foldl (fun t a => change a t) s) := by
  induction l with
  | nil => exact ⟨fun _ => rfl, fun _ _ _ _ => rfl⟩
  | cons a l ih =>
    refine ⟨fun s => (ih.seconds _).trans ((h a).seconds s), fun s q c o => ?_⟩
    simp only [List.foldl_cons, (h a).notices]
    exact ih.notices _ q c o

/-- Changes made one after the other, each followed by its notices, are all the changes followed by all the notices: no change looks at
the notices, and the notices of one depend neither on the others' changes nor on the notices posted. -/
theorem foldl_notices_last {α : Type} {change : α → State → State} {notices : State → α → List NoticeBody}
    (hfree : ∀ a, NoticeFree (change a)) (hpost : ∀ s l a, notices (s.postAll l) a = notices s a)
    (hother : ∀ s a b, a ≠ b → notices (change b s) a = notices s a) (l : List α) (hl : l.Nodup) (s : State) :
    l.foldl (fun t a => (change a t).postAll (notices t a)) s =
      (l.foldl (fun t a => change a t) s).postAll (l.flatMap (notices s)) := by
  induction l generalizing s with
  | nil => rfl
  | cons a l ih =>
    obtain ⟨ha, hl⟩ := List.nodup_cons.mp hl
    have hlater : ∀ b ∈ l, notices ((change a s).postAll (notices s a)) b = notices s b := fun b hb => by
      rw [hpost, hother s b a (fun e => ha (e ▸ hb))]
    rw [List.foldl_cons, ih hl, ← (NoticeFree.foldl hfree l).postAll, ← postAll_append, List.flatMap_cons,
      List.flatMap_congr hlater]
    rfl

/-- The notices of the records that a test singles out, in order. -/
theorem flatMap_ite {α : Type} (p : α → Bool) (f : α → NoticeBody) (l : List α) :
    l.flatMap (fun a => if p a then [f a] else []) = (l.filter p).map f := by
  induction l with
  | nil => rfl
  | cons a l ih => cases h : p a <;> simp [h, ih]

/-- Every record of a table changed, one after the other. -/
theorem foldl_set_eq_mapNo {α : Type} {n : Nat} (f : Fin n → α → α) (t : Table α n) :
    (List.finRange n).foldl (fun t i => t.set i (f i (t.get i))) t = t.mapNo f := by
  have key : ∀ (l : List (Fin n)) (t : Table α n), l.Nodup → ∀ j,
      (l.foldl (fun t i => t.set i (f i (t.get i))) t).get j = if j ∈ l then f j (t.get j) else t.get j := by
    intro l
    induction l with
    | nil => intro t _ j; rfl
    | cons i l ih =>
      intro t hl j
      obtain ⟨hi, hl⟩ := List.nodup_cons.mp hl
      rw [List.foldl_cons, ih _ hl]
      by_cases hj : j = i
      · subst hj; simp [hi]
      · simp [hj]
  exact Table.ext_get fun j => by rw [key _ _ (List.nodup_finRange n), if_pos (List.mem_finRange j), Table.get_mapNo]

theorem allZones_nodup : allZones.Nodup := List.nodup_finRange 8
theorem allSensors_nodup : allSensors.Nodup := List.nodup_finRange 4

/-! ### The zone update (R32 to R36) -/

theorem sensors_eq_distinct (n : Naming) : n.sensors = n.distinct := by
  obtain ⟨primary, secondary⟩ := n
  rcases primary with _ | a <;> rcases secondary with _ | b
  · rfl
  · rfl
  · rfl
  · by_cases h : a = b
    · subst h; simp [Naming.sensors, Naming.distinct]
    · simp [Naming.sensors, Naming.distinct, h]

theorem update_eq (z : Zone) (readings : List Nat) : z.update readings = z.updated readings := by
  unfold Zone.update Zone.updated
  rcases readings with _ | ⟨r, rs⟩
  · simp only [filterStep_eq]; rfl
  · simp only [filterStep_eq, List.min?_cons', Option.getD_some]; rfl

/-- R36: whether an update of a zone's record calls for a ZONE notice. -/
def Zone.announces (z : Zone) (readings : List Nat) : Bool :=
  !decide ((z.updated readings).source = z.source ∧ (z.updated readings).disagree = z.disagree)

/-- The ZONE notice of an update, if one is due. -/
def State.zoneNotices (naming : Table Naming 8) (s : State) (n : ZoneNo) : List NoticeBody :=
  let z := s.zones.get n
  let readings := s.goodReadings (naming.get n)
  if z.announces readings then [.zone n (z.updated readings).source (z.updated readings).disagree] else []

/-- One zone's record updated, without its notice. -/
def State.refreshZone (naming : Table Naming 8) (n : ZoneNo) (s : State) : State :=
  s.setZone n ((s.zones.get n).updated (s.goodReadings (naming.get n)))

theorem updateZone_eq (naming : Table Naming 8) (n : ZoneNo) (s : State) :
    s.updateZone naming n = (s.refreshZone naming n).postAll (s.zoneNotices naming n) := by
  unfold State.updateZone State.zoneNotices State.refreshZone Zone.announces
  simp only [update_eq]
  split
  · rename_i hsame; simp [hsame]
  · rename_i hdiffer; simp [hdiffer, postAll_cons]

theorem goodReadings_congr {s t : State} (h : t.sensors = s.sensors) (n : Naming) : t.goodReadings n = s.goodReadings n := by
  unfold State.goodReadings; rw [h]

theorem zoneNotices_congr {s t : State} {n : ZoneNo} (hs : t.sensors = s.sensors) (hz : t.zones.get n = s.zones.get n)
    (naming : Table Naming 8) : t.zoneNotices naming n = s.zoneNotices naming n := by
  unfold State.zoneNotices; rw [hz, goodReadings_congr hs]

theorem refreshZone_noticeFree (naming : Table Naming 8) (n : ZoneNo) : NoticeFree (State.refreshZone naming n) :=
  ⟨fun _ => rfl, fun _ _ _ _ => rfl⟩

theorem foldl_refreshZone (naming : Table Naming 8) (s : State) :
    allZones.foldl (fun t n => t.refreshZone naming n) s =
      { s with zones := s.zones.mapNo (fun n z => z.updated (s.goodReadings (naming.get n))) } := by
  rw [← foldl_set_eq_mapNo]
  exact List.foldl_hom (fun z : Table Zone 8 => ({ s with zones := z } : State)) (fun _ _ => rfl)

/-- R32: scan completion as one change of the zone records, and the ZONE notices due in ascending order. -/
theorem completeScan_eq (s : State) (naming : Table Naming 8) : s.completeScan naming = s.scanDone naming := by
  have hnotices : ∀ t l n, State.zoneNotices naming (State.postAll t l) n = State.zoneNotices naming t n := by
    intro t l n
    obtain ⟨q, c, o, h⟩ := postAll_only t l
    rw [h]; rfl
  have hothers : ∀ t a b, a ≠ b → State.zoneNotices naming (State.refreshZone naming b t) a = State.zoneNotices naming t a :=
    fun t a b hne => zoneNotices_congr (s := t) (t := t.refreshZone naming b) rfl (by simp [State.refreshZone, hne]) naming
  unfold State.completeScan
  simp only [updateZone_eq]
  rw [foldl_notices_last (refreshZone_noticeFree naming) hnotices hothers _ allZones_nodup, foldl_refreshZone]
  unfold State.zoneNotices
  rw [flatMap_ite]
  unfold State.scanDone State.goodReadings Zone.announces
  simp only [sensors_eq_distinct]

theorem pollFrom_eq (s : State) (naming : Table Naming 8) (l : List SensorNo) : s.pollFrom naming l = s.polling naming l := by
  cases l with
  | nil => exact completeScan_eq s naming
  | cons n todo => rfl

/-! ### The naming (R28) -/

theorem names_eq (naming : Table Naming 8) (n : SensorNo) :
    names naming n = decide (∃ z : ZoneNo, (naming.get z).primary = some n ∨ (naming.get z).secondary = some n) := by
  rw [Bool.eq_iff_iff, decide_eq_true_eq]
  simp [names, allZones]

/-- R28: the record of a sensor that a scan start takes up or puts out of use. -/
def Sensor.fresh (named : Bool) : Sensor := if named then ⟨.doubtful, 0, 0, none⟩ else ⟨.unused, 0, 0, none⟩

/-- R28: whether the naming moves a sensor into use or out of it. -/
def Sensor.moves (named : Bool) (x : Sensor) : Bool := decide (named = true ↔ x.health = .unused)

/-- R28: a sensor's record after the naming has acted. -/
def Sensor.afterNaming (named : Bool) (x : Sensor) : Sensor := if x.moves named then .fresh named else x

/-- A sensor record replaced: one change, and the SENSOR notice if its health changes (R36). -/
theorem changeSensor_eq (s : State) (n : SensorNo) (x : Sensor) :
    s.changeSensor n x =
      (s.setSensor n x).postAll (if x.health = (s.sensors.get n).health then [] else [.sensor n x.health]) := by
  unfold State.changeSensor
  dsimp only
  split <;> rfl

/-- The SENSOR notice of a scan start for one sensor, if one is due. -/
def State.namingNotices (naming : Table Naming 8) (s : State) (n : SensorNo) : List NoticeBody :=
  if (s.sensors.get n).moves (names naming n) then [.sensor n (Sensor.fresh (names naming n)).health] else []

/-- One sensor's record after the naming has acted, without its notice. -/
def State.renameSensor (naming : Table Naming 8) (n : SensorNo) (s : State) : State :=
  s.setSensor n ((s.sensors.get n).afterNaming (names naming n))

theorem setSensor_get_self (s : State) (n : SensorNo) : s.setSensor n (s.sensors.get n) = s := by
  unfold State.setSensor; rw [Table.set_get_self]

theorem nameSensor_eq (naming : Table Naming 8) (n : SensorNo) (s : State) :
    s.nameSensor naming n = (s.renameSensor naming n).postAll (s.namingNotices naming n) := by
  unfold State.nameSensor State.renameSensor State.namingNotices Sensor.afterNaming
  by_cases hnamed : names naming n = true <;> by_cases hunused : (s.sensors.get n).health = .unused
  · simp [hnamed, hunused, Sensor.moves, Sensor.fresh, changeSensor_eq]
  · simp [hnamed, hunused, Sensor.moves, setSensor_get_self]
  · simp [hnamed, hunused, Sensor.moves, setSensor_get_self]
  · have hchanged : ¬ Health.unused = (s.sensors.get n).health := fun e => hunused e.symm
    simp [hnamed, hunused, hchanged, Sensor.moves, Sensor.fresh, changeSensor_eq]

theorem renameSensor_noticeFree (naming : Table Naming 8) (n : SensorNo) : NoticeFree (State.renameSensor naming n) :=
  ⟨fun _ => rfl, fun _ _ _ _ => rfl⟩

theorem foldl_renameSensor (naming : Table Naming 8) (s : State) :
    allSensors.foldl (fun t n => t.renameSensor naming n) s =
      { s with sensors := s.sensors.mapNo (fun n x => x.afterNaming (names naming n)) } := by
  rw [← foldl_set_eq_mapNo]
  exact List.foldl_hom (fun x : Table Sensor 4 => ({ s with sensors := x } : State)) (fun _ _ => rfl)

/-- R28: the naming as one change of the sensor records, and the SENSOR notices due in ascending order. -/
theorem foldl_nameSensor (naming : Table Naming 8) (s : State) :
    allSensors.foldl (fun t n => t.nameSensor naming n) s =
      State.postAll { s with sensors := s.sensors.mapNo (fun n x => x.afterNaming (names naming n)) }
        ((allSensors.filter (fun n => (s.sensors.get n).moves (names naming n))).map
          (fun n => .sensor n (Sensor.fresh (names naming n)).health)) := by
  have hnotices : ∀ t l n, State.namingNotices naming (State.postAll t l) n = State.namingNotices naming t n := by
    intro t l n
    obtain ⟨q, c, o, h⟩ := postAll_only t l
    rw [h]; rfl
  have hothers : ∀ t a b, a ≠ b → State.namingNotices naming (State.renameSensor naming b t) a = State.namingNotices naming t a :=
    fun t a b hne => by simp [State.namingNotices, State.renameSensor, hne]
  simp only [nameSensor_eq]
  rw [foldl_notices_last (renameSensor_noticeFree naming) hnotices hothers _ allSensors_nodup, foldl_renameSensor]
  unfold State.namingNotices
  rw [flatMap_ite]

theorem mapNo_afterNaming (named : SensorNo → Bool) (t : Table Sensor 4) :
    t.mapNo (fun n x => x.afterNaming (named n)) =
      t.mapNo (fun n x => if (t.get n).moves (named n) then .fresh (named n) else x) :=
  Table.ext_get fun n => by rw [Table.get_mapNo, Table.get_mapNo, Sensor.afterNaming]

/-- R28: the whole scan start as one equation. -/
theorem startScan_eq (s : State) : s.startScan = s.scanStarted := by
  unfold State.startScan State.scanStarted
  dsimp only
  rw [pollFrom_eq, foldl_nameSensor, mapNo_afterNaming, funext (names_eq _)]
  rfl

/-! ### The end of a poll (R29 to R31) -/

/-- R29: a sensor's record after a poll that ended with a reading or without one. -/
def Sensor.afterPoll (x : Sensor) : Option Nat → Sensor
  | some lux => x.validRead lux
  | none => x.failedRead

/-- R29, R36: a poll's end. -/
theorem endPoll_eq (s : State) (c : Scan) (signals : List BusSignal) (reading : Option Nat) :
    s.endPoll c signals reading = s.polled c signals ((s.sensors.get c.polling).afterPoll reading) := by
  unfold State.endPoll State.polled
  dsimp only
  rw [pollFrom_eq, changeSensor_eq]
  cases reading <;> rfl

theorem luxOf_eq (high middle low : Byte) : luxOf high middle low = min (word3 high middle low) 100000 := by
  rw [luxOf, readBytes_three]

theorem exec_sensorPollEnd_valid {s : State} {c : Scan} (hc : s.scan = some c) (high middle low : Byte) :
    exec (.sensorPollEnd (.valid high middle low)) s = .next (s.polled c [.noAcknowledge, .stop]
      ((s.sensors.get c.polling).validRead (min (word3 high middle low) 100000))) := by
  simp only [exec, execSensorPollEnd, hc, endPoll_eq, luxOf_eq]
  rfl

theorem exec_sensorPollEnd_unacknowledged {s : State} {c : Scan} (hc : s.scan = some c) :
    exec (.sensorPollEnd .unacknowledged) s = .next (s.polled c [.stop] (s.sensors.get c.polling).failedRead) := by
  simp only [exec, execSensorPollEnd, hc, endPoll_eq]
  rfl

theorem exec_sensorPollTimeout {s : State} {c : Scan} (hc : s.scan = some c) :
    exec .sensorPollTimeout s = .next (s.polled c [.stop] (s.sensors.get c.polling).failedRead) := by
  simp only [exec, execSensorPollTimeout, hc, endPoll_eq]
  rfl

/-- R30, of a sensor in use. -/
theorem validRead_eq {x : Sensor} (h : x.health ≠ .unused) (lux : Nat) :
    x.validRead lux = (match x.health with
      | .unused => x
      | .doubtful => ⟨.good, 0, 0, some lux⟩
      | .good => { x with reading := some lux }
      | .failed => if x.validRun = 0 then { x with validRun := 1, reading := some lux } else ⟨.good, 0, 0, some lux⟩) := by
  obtain ⟨health, misses, valids, reading⟩ := x
  cases health with
  | unused => exact absurd rfl h
  | doubtful => rfl
  | good => rfl
  | failed =>
    rcases valids with _ | n
    · rfl
    · simp [Sensor.validRead]

/-- R31. -/
theorem failedRead_eq (x : Sensor) :
    x.failedRead = (match x.health with
      | .unused => x
      | .good => ⟨.doubtful, 1, 0, x.reading⟩
      | .doubtful => if x.missRun < 3 then { x with missRun := x.missRun + 1 } else ⟨.failed, 4, 0, x.reading⟩
      | .failed => ⟨.failed, 4, 0, x.reading⟩) := by
  obtain ⟨health, misses, valids, reading⟩ := x
  cases health with
  | unused => rfl
  | good => rfl
  | failed => rfl
  | doubtful =>
    by_cases h : misses < 3
    · have hmore : ¬ 4 ≤ misses + 1 := by omega
      simp only [Sensor.failedRead, if_neg hmore, if_pos h]
    · have hfull : 4 ≤ misses + 1 := by omega
      simp only [Sensor.failedRead, if_pos hfull, if_neg h]

theorem exec_scanTimerExpiry {s : State} (h : s.resetting = false) :
    exec .scanTimerExpiry s =
      .next (if s.scanTimer = none then s else State.scanStarted { s with scanTimer := some s.scanPeriod }) := by
  simp only [exec, execScanTimerExpiry, h, startScan_eq, Bool.or_false, Option.isNone_iff_eq_none]

theorem addressByte_eq (n : SensorNo) : addressByte n = BitVec.ofNat 8 (81 + 2 * n.val) := by
  rw [addressByte]
  congr 1
  omega

/-- Settles O52: the scan start and the poll's end by the equations above. -/
theorem scansAndPolls : Obligations.ScansAndPolls := by
  unfold Obligations.ScansAndPolls
  refine fun s => ⟨exec_scanTimerExpiry, fun c hc => ?_, fun hc => ?_⟩
  · have hscan : s.scan = some c := hc
    refine ⟨⟨?_, ?_⟩, fun high middle low hused => ?_, ?_, ?_⟩
    · rw [State.sensorAddress, hscan]; rfl
    · rw [State.sensorBus, hscan, Option.map_some, sensorRead, addressByte_eq]
    · exact (exec_sensorPollEnd_valid hscan high middle low).trans
        (congrArg (Host.Outcome.next ∘ s.polled c [.noAcknowledge, .stop]) (validRead_eq hused _))
    · exact (exec_sensorPollEnd_unacknowledged hscan).trans
        (congrArg (Host.Outcome.next ∘ s.polled c [.stop]) (failedRead_eq (s.sensors.get c.polling)))
    · exact (exec_sensorPollTimeout hscan).trans
        (congrArg (Host.Outcome.next ∘ s.polled c [.stop]) (failedRead_eq (s.sensors.get c.polling)))
  · refine ⟨?_, ?_, fun result => ?_, ?_⟩
    · rw [State.sensorAddress, hc]; rfl
    · rw [State.sensorBus, hc]; rfl
    · simp only [exec, execSensorPollEnd, hc]
    · simp only [exec, execSensorPollTimeout, hc]

end Sys2Proof.Machine
end

section
/-! The one-second event (O35): the Claim Table's part as one change of the records and the lapsed set followed by its notices, and the
Counter Bank's part. -/

namespace Sys2Proof.Machine

/-! ### The Claim Table's part (R132) -/

/-- One claim record's second, without its notice. -/
def State.tickClaim (i : FaceNo) (s : State) : State :=
  { s with
    claims := s.claims.set i ((s.claims.get i).bind Claim.second)
    lapsed := if s.lapsing i then faceInsert s.lapsed i else s.lapsed }

/-- The OWNER notice of a claim record's second, if the claim lapses. -/
def State.lapseNotices (s : State) (i : FaceNo) : List NoticeBody := if s.lapsing i then [.owner i .operator true] else []

theorem lapsing_of_none {s : State} {i : FaceNo} (h : s.claims.get i = none) : s.lapsing i = false := by
  simp [State.lapsing, h]

theorem lapsing_of_some {s : State} {i : FaceNo} {c : Claim} (h : s.claims.get i = some c) :
    s.lapsing i = decide (c.remaining = 1) := by simp [State.lapsing, h]

theorem joinLapsed_noticeFree (i : FaceNo) : NoticeFree (fun s => { s with lapsed := faceInsert s.lapsed i }) :=
  ⟨fun _ => rfl, fun _ _ _ _ => rfl⟩

/-- R132: a lapse; the lapsed set does not enter its notice. -/
theorem lapseClaim_eq (i : FaceNo) (s : State) :
    s.lapseClaim i =
      State.post { s with claims := s.claims.set i none, lapsed := faceInsert s.lapsed i } (.owner i .operator true) :=
  ((joinLapsed_noticeFree i).post (s.setClaim i none) (.owner i .operator true)).symm

theorem countClaim_eq (i : FaceNo) (s : State) : s.countClaim i = (s.tickClaim i).postAll (s.lapseNotices i) := by
  unfold State.countClaim State.tickClaim State.lapseNotices
  cases hclaim : s.claims.get i with
  | none =>
    have hkept : s.claims.set i none = s.claims := by rw [← hclaim, Table.set_get_self]
    simp [lapsing_of_none hclaim, hkept]
  | some c =>
    rw [lapsing_of_some hclaim, Option.bind_some]
    by_cases hheld : c.remaining = 0
    · have hkept : s.claims.set i (some c) = s.claims := by rw [← hclaim, Table.set_get_self]
      simp [hheld, Claim.second, hkept]
    · by_cases hlast : c.remaining = 1
      · simp [hlast, Claim.second, lapseClaim_eq, postAll_cons]
      · rw [decide_eq_false hlast]
        simp only [Claim.second, if_neg hheld, if_neg hlast]
        rfl

theorem tickClaim_noticeFree (i : FaceNo) : NoticeFree (State.tickClaim i) := ⟨fun _ => rfl, fun _ _ _ _ => rfl⟩

theorem lapsing_congr {s t : State} {i : FaceNo} (h : t.claims.get i = s.claims.get i) : t.lapsing i = s.lapsing i := by
  unfold State.lapsing; rw [h]

theorem tickClaim_other {i j : FaceNo} (h : j ≠ i) (s : State) :
    (s.tickClaim i).claims.get j = s.claims.get j ∧ faceIn (s.tickClaim i).lapsed j = faceIn s.lapsed j := by
  refine ⟨by simp [State.tickClaim, h], ?_⟩
  cases hl : s.lapsing i <;> simp [State.tickClaim, hl, faceIn_insert, h]

theorem tickClaim_self (i : FaceNo) (s : State) :
    (s.tickClaim i).claims.get i = (s.claims.get i).bind Claim.second ∧
      faceIn (s.tickClaim i).lapsed i = (faceIn s.lapsed i || s.lapsing i) := by
  refine ⟨by simp [State.tickClaim], ?_⟩
  cases hl : s.lapsing i <;> simp [State.tickClaim, hl, faceIn_insert]

theorem faceIn_or (m n : FaceSet) (i : FaceNo) : faceIn (m ||| n) i = (faceIn m i || faceIn n i) := by simp [faceIn]

/-- Every claim record's second, as one change of the records and the lapsed set. -/
theorem eachFace_tickClaim (s : State) :
    s.eachFace State.tickClaim =
      { s with claims := s.claims.map (fun c => c.bind Claim.second), lapsed := s.lapsed ||| faceSetOf s.lapsing } := by
  obtain ⟨c, l, h⟩ : ∃ c l, s.eachFace State.tickClaim = { s with claims := c, lapsed := l } := by
    refine eachFace_keeps (P := fun t => ∃ c l, t = { s with claims := c, lapsed := l }) ?_ s ⟨s.claims, s.lapsed, rfl⟩
    rintro i t ⟨c, l, rfl⟩
    exact ⟨_, _, rfl⟩
  have hread := eachFace_read (fun t i => (t.claims.get i, faceIn t.lapsed i))
    (fun _ p => (p.1.bind Claim.second, p.2 || decide (p.1.map Claim.remaining = some 1)))
    (fun i t => Prod.ext (tickClaim_self i t).1 (tickClaim_self i t).2)
    (fun i j t hj => Prod.ext (tickClaim_other hj t).1 (tickClaim_other hj t).2) s
  rw [h] at hread ⊢
  have hclaims : c = s.claims.map (fun c => c.bind Claim.second) :=
    Table.ext_get fun i => by rw [Table.get_map]; exact congrArg Prod.fst (hread i)
  have hlapsed : l = s.lapsed ||| faceSetOf s.lapsing :=
    faceSet_ext fun i => by rw [faceIn_or, faceIn_faceSetOf]; exact congrArg Prod.snd (hread i)
  rw [hclaims, hlapsed]

/-- R132: the Claim Table's second as one change and the OWNER notices in ascending order. -/
theorem claimsSecond_eq (s : State) : s.claimsSecond = s.claimsTicked := by
  have hnotices : ∀ t l i, State.lapseNotices (State.postAll t l) i = State.lapseNotices t i := by
    intro t l i
    obtain ⟨q, c, o, h⟩ := postAll_only t l
    rw [h]; rfl
  have hothers : ∀ t i j, i ≠ j → State.lapseNotices (State.tickClaim j t) i = State.lapseNotices t i := by
    intro t i j hne
    unfold State.lapseNotices
    rw [lapsing_congr (tickClaim_other hne t).1]
  have hticks := eachFace_tickClaim s
  unfold State.eachFace at hticks
  unfold State.claimsSecond State.eachFace
  simp only [countClaim_eq]
  rw [foldl_notices_last tickClaim_noticeFree hnotices hothers _ allFaces_nodup, hticks]
  unfold State.lapseNotices
  rw [flatMap_ite]
  rfl

theorem lapseDue_eq (s : State) : s.lapseDue = allFaces.any s.lapsing := by
  unfold State.lapseDue
  congr 1
  funext i
  cases h : s.claims.get i with
  | none => rw [lapsing_of_none h]
  | some c => rw [lapsing_of_some h]; exact beq_eq_decide _ _

/-! ### The Counter Bank's part (R145) -/

theorem autoSnapshotDue_eq (s : State) : s.autoSnapshotDue = s.snapshotDue := by
  unfold State.autoSnapshotDue State.snapshotDue
  congr 2
  exact propext (by omega)

theorem autoSnapshotNow_eq (s : State) : s.autoSnapshotNow = State.post (State.snapshotted { s with autoCount := 0 }) .snapshot := rfl

theorem bankSecond_eq (s : State) : s.bankSecond = s.bankTicked := by
  unfold State.bankSecond State.bankTicked
  rw [autoSnapshotDue_eq, autoSnapshotNow_eq]
  cases hon : s.autosnap with
  | false => rfl
  | true =>
    by_cases hcount : s.autoCount < 59
    · simp [State.snapshotDue, hon, hcount, Nat.not_le.mpr hcount]
    · simp [State.snapshotDue, hon, hcount, Nat.not_lt.mp hcount]

/-! ### The whole event -/

theorem claimsTicked_holdoffCount (s : State) : s.claimsTicked.holdoffCount = s.holdoffCount := by
  unfold State.claimsTicked
  obtain ⟨q, c, o, h⟩ := postAll_only
    { s with claims := s.claims.map (fun c => c.bind Claim.second), lapsed := s.lapsed ||| faceSetOf s.lapsing }
    ((allFaces.filter s.lapsing).map (fun i => .owner i .operator true))
  rw [h]

theorem bankTicked_holdoffCount (s : State) : s.bankTicked.holdoffCount = s.holdoffCount := by
  unfold State.bankTicked
  split
  · rfl
  · split
    · rfl
    · rw [post_holdoffCount]; rfl

theorem claimsAndBankSecond_eq (s : State) :
    s.claimsAndBankSecond =
      if allFaces.any s.lapsing ∧ s.snapshotDue = true then
        let u : State := { s with freeChoices := s.freeChoices + 1 }
        if Config.bankTakesSecondFirst s.freeChoices then u.bankTicked.claimsTicked else u.claimsTicked.bankTicked
      else s.claimsTicked.bankTicked := by
  unfold State.claimsAndBankSecond
  simp only [claimsSecond_eq, bankSecond_eq, lapseDue_eq, autoSnapshotDue_eq, Bool.and_eq_true]

theorem claimsAndBankSecond_holdoffCount (s : State) : s.claimsAndBankSecond.holdoffCount = s.holdoffCount := by
  rw [claimsAndBankSecond_eq]
  split
  · dsimp only
    split
    · rw [claimsTicked_holdoffCount, bankTicked_holdoffCount]
    · rw [bankTicked_holdoffCount, claimsTicked_holdoffCount]
  · rw [bankTicked_holdoffCount, claimsTicked_holdoffCount]

theorem exec_oneSecondEvent {s : State} (h : s.resetting = false) :
    exec .oneSecondEvent s = .next { s.timeTicked.claimsAndBankSecond with holdoffCount := s.holdoffCount - 1 } := by
  have hcount := claimsAndBankSecond_holdoffCount s.timeTicked
  simp only [exec, execOneSecondEvent, h]
  show Host.Outcome.next (State.holdoffSecond s.timeTicked.claimsAndBankSecond) = _
  rw [State.holdoffSecond, hcount]
  rfl

theorem exec_claimLapse {s : State} (h : s.resetting = false) (i : FaceNo) :
    exec (.claimLapse i) s = .next (
      if s.lapsing i then
        State.post { s with claims := s.claims.set i none, lapsed := s.lapsed ||| (1#32 <<< i.val) } (.owner i .operator true)
      else s) := by
  cases hclaim : s.claims.get i with
  | none => simp [exec, execClaimLapse, hclaim, lapsing_of_none hclaim]
  | some c =>
    simp only [exec, execClaimLapse, hclaim, h, lapsing_of_some hclaim, and_true, lapseClaim_eq, decide_eq_true_eq]
    rfl

/-- Settles O35: the Claim Table's and the Counter Bank's parts by the equations above. -/
theorem oneSecond : Obligations.OneSecond := by
  unfold Obligations.OneSecond
  intro s h
  refine ⟨⟨Config.bankTakesSecondFirst s.freeChoices, ?_⟩, exec_claimLapse h, ?_, rfl⟩
  · rw [exec_oneSecondEvent h, claimsAndBankSecond_eq]
    rfl
  · simp only [exec, execAutoSnapshot, h, autoSnapshotDue_eq, autoSnapshotNow_eq, Bool.not_false, Bool.and_true]

end Sys2Proof.Machine
end

section
/-! The sensors' records and the estimates under every step (O59). Most commands agree with the state before them in all that `SensorInv`
reads (`SameSensing`); the scan's events are treated by their equations, and the resets by what they clear. -/

namespace Sys2Proof.Machine

/-! ### What the sensors' invariant reads -/

/-- `t` agrees with `s` in everything that `SensorInv` reads. -/
structure SameSensing (s t : State) : Prop where
  sensors : t.sensors = s.sensors
  scan : t.scan = s.scan
  ambient : ∀ n, (t.zones.get n).ambient = (s.zones.get n).ambient

theorem SameSensing.refl (s : State) : SameSensing s s := ⟨rfl, rfl, fun _ => rfl⟩

theorem SameSensing.trans {s t u : State} (h : SameSensing s t) (k : SameSensing t u) : SameSensing s u :=
  ⟨k.sensors.trans h.sensors, k.scan.trans h.scan, fun n => (k.ambient n).trans (h.ambient n)⟩

theorem SameSensing.sensorInv {s t : State} (e : SameSensing s t) (h : SensorInv s) : SensorInv t := by
  unfold SensorInv
  rw [e.sensors, e.scan]
  obtain ⟨hrecords, hscan, hambient⟩ := h
  exact ⟨hrecords, hscan, fun n => by rw [e.ambient n]; exact hambient n⟩

theorem OnlyChain.sameSensing {s t : State} : OnlyChain s t → SameSensing s t := by
  rintro ⟨_, _, _, _, _, _, _, _, _, _, _, _, _, rfl⟩; exact ⟨rfl, rfl, fun _ => rfl⟩

theorem OnlyHazard.sameSensing {s t : State} (h : OnlyHazard s t) : SameSensing s t := h.chain.sameSensing

theorem OnlyNotices.sameSensing {s t : State} (h : OnlyNotices s t) : SameSensing s t := h.faces.hazard.sameSensing

theorem setPort_sameSensing (s : State) (l : Link) (p : Port) : SameSensing s (s.setPort l p) :=
  ⟨setPort_sensors s l p, setPort_scan s l p, fun n => by rw [setPort_zones]⟩

/-- A change made face by face agrees in what the sensors' invariant reads when each single change does. -/
theorem eachFace_sameSensing {f : FaceNo → State → State} (h : ∀ i t, SameSensing t (f i t)) (s : State) :
    SameSensing s (s.eachFace f) :=
  eachFace_keeps (P := SameSensing s) (fun i t ht => ht.trans (h i t)) s (.refl s)

/-! ### Requests -/

theorem changeMode_sameSensing (s : State) (m : Mode) : SameSensing s (s.changeMode m) :=
  SameSensing.trans (t := { s with mode := m }) ⟨rfl, rfl, fun _ => rfl⟩ (changeMode_only s m).sameSensing

theorem completeHalt_sameSensing (s : State) : SameSensing s s.completeHalt :=
  SameSensing.trans (t := { s with overrunWaiting := false, cycleTimer := none, mode := .halted }) ⟨rfl, rfl, fun _ => rfl⟩
    (completeHalt_spec s).sameSensing

theorem takeHalt_sameSensing (s : State) : SameSensing s s.takeHalt := by
  have hclose : ∀ u, SameSensing s u → SameSensing s (if u.cycle.isNone then u.completeHalt else u) := by
    intro u hu
    split
    · exact hu.trans (completeHalt_sameSensing u)
    · exact hu
  have hleave : SameSensing s (if s.mode = .hold then s.leaveHold else s) := by
    split
    · exact (leaveHold_only s).sameSensing
    · exact .refl s
  unfold State.takeHalt
  split
  · exact .refl s
  · exact .refl s
  · exact hclose _ (hleave.trans (changeMode_sameSensing _ _))
  · exact hclose _ (hleave.trans (changeMode_sameSensing _ _))

theorem takeRun_sameSensing (s : State) : SameSensing s s.takeRun := by
  unfold State.takeRun
  split
  · exact (changeMode_sameSensing s _).trans (cycleStart_only _).sameSensing
  · exact changeMode_sameSensing s _
  · exact .refl s
  · exact .refl s

theorem takeUpFace_sameSensing (i : FaceNo) (s : State) : SameSensing s (State.takeUpFace i s) := by
  unfold State.takeUpFace
  dsimp only
  split
  · exact (setFaceDyn_only _ _ _).hazard.sameSensing
  · exact .refl s

theorem takeResume_sameSensing (s : State) : SameSensing s s.takeResume :=
  ((leaveHold_only s).sameSensing.trans (eachFace_sameSensing takeUpFace_sameSensing _)).trans (changeMode_sameSensing _ _)

theorem losePlace_sameSensing (n : Span) (i : FaceNo) (s : State) : SameSensing s (State.losePlace n i s) := by
  obtain ⟨f, c, h⟩ := losePlace_only n i s
  rw [h]; exact ⟨rfl, rfl, fun _ => rfl⟩

theorem changeSpan_sameSensing (s : State) (n : Span) : SameSensing s (s.changeSpan n) := by
  have hplaces : SameSensing s (if n.size < s.span.size then s.eachFace (State.losePlace n) else s) := by
    split
    · exact eachFace_sameSensing (losePlace_sameSensing n) s
    · exact .refl s
  exact hplaces.trans ⟨rfl, rfl, fun _ => rfl⟩

theorem setEnabled_sameSensing (members : FaceSet) (flag : Bool) (i : FaceNo) (s : State) :
    SameSensing s (State.setEnabled members flag i s) := by
  unfold State.setEnabled; split <;> exact ⟨rfl, rfl, fun _ => rfl⟩

theorem conditionFace_sameSensing (members : FaceSet) (c : Conditioning) (i : FaceNo) (s : State) :
    SameSensing s (State.conditionFace members c i s) := by
  unfold State.conditionFace; split <;> exact ⟨rfl, rfl, fun _ => rfl⟩

theorem setClaim_sameSensing (s : State) (i : FaceNo) (c : Option Claim) : SameSensing s (s.setClaim i c) :=
  ⟨rfl, rfl, fun _ => rfl⟩

theorem post_sameSensing (s : State) (b : NoticeBody) : SameSensing s (s.post b) := (post_only s b).sameSensing

theorem claimFace_sameSensing (members : FaceSet) (c : Claim) (i : FaceNo) (s : State) :
    SameSensing s (State.claimFace members c i s) := by
  have hset := setClaim_sameSensing s i (some c)
  unfold State.claimFace
  split
  · split
    · exact hset
    · exact hset.trans (post_sameSensing _ _)
  · exact .refl s

theorem releaseFace_sameSensing (members : FaceSet) (i : FaceNo) (s : State) :
    SameSensing s (State.releaseFace members i s) := by
  unfold State.releaseFace
  split
  · exact (setClaim_sameSensing s i none).trans (post_sameSensing _ _)
  · exact .refl s

theorem setAutosnap_sameSensing (s : State) (on : Bool) : SameSensing s (s.setAutosnap on) := by
  unfold State.setAutosnap; split <;> exact ⟨rfl, rfl, fun _ => rfl⟩

/-- R40: a configuration stored leaves the estimate as it is. -/
theorem setZoneConfig_sameSensing (s : State) (n : ZoneNo) (c : ZoneConfig) :
    SameSensing s (s.setZone n { s.zones.get n with config := c }) := by
  refine ⟨rfl, rfl, fun m => ?_⟩
  rw [setZone_zones, Table.get_set]
  split
  · rename_i h; rw [h]
  · rfl

/-- No request touches the sensors, the scan or the estimates. -/
theorem requestEffect_sameSensing {s t : State} (e : RequestEffect s t) : SameSensing s t := by
  cases e with
  | nothing => exact .refl s
  | halt => exact takeHalt_sameSensing s
  | run _ => exact takeRun_sameSensing s
  | resume _ => exact takeResume_sameSensing s
  | zone n f _ => exact setZoneConfig_sameSensing s n _
  | span n _ _ => exact changeSpan_sameSensing s n
  | enabled members flag => exact eachFace_sameSensing (setEnabled_sameSensing members flag) s
  | condition members c _ => exact eachFace_sameSensing (conditionFace_sameSensing members c) s
  | restore i _ _ => exact (setFaceDyn_only s i _).hazard.sameSensing.trans (post_sameSensing _ _)
  | autosnap on => exact setAutosnap_sameSensing s on
  | claim set mode hold _ => exact eachFace_sameSensing (claimFace_sameSensing _ _) s
  | release members => exact eachFace_sameSensing (releaseFace_sameSensing members) s
  | dayClock | curfew | scanPeriod | period | retries | curve | face | persist | snapshot | fetch | changes | holdoff | collect =>
    exact ⟨rfl, rfl, fun _ => rfl⟩

theorem discardFrame_sameSensing (s : State) (l : Link) : SameSensing s (s.discardFrame l) := setPort_sameSensing s l _

theorem takeRequest_sameSensing {s : State} (l : Link) (k tag : Byte) {j : State → Answer × State}
    (hj : RequestEffect s (j s).2) : SameSensing s (s.takeRequest l k tag j) :=
  takeRequest_keeps (P := SameSensing s) (fun _ => requestEffect_sameSensing hj) (fun _ => discardFrame_sameSensing s l)
    (fun u _ _ hu => hu.trans (setPort_sameSensing u l _)) (.refl s)

/-! ### The link ports -/

theorem setReceiver_sameSensing (s : State) (l : Link) (r : Receiver) : SameSensing s (s.setReceiver l r) :=
  setPort_sameSensing s l _

theorem setReceiver_discardFrame_sameSensing (s : State) (l : Link) (r : Receiver) :
    SameSensing s ((s.setReceiver l r).discardFrame l) :=
  (setReceiver_sameSensing s l r).trans (discardFrame_sameSensing _ l)

theorem frameComplete_sameSensing (s : State) (l : Link) (bytes : List Byte) : SameSensing s (s.frameComplete l bytes) := by
  unfold State.frameComplete
  dsimp only
  split
  · split
    · exact (setReceiver_sameSensing s l .waiting).trans (takeRequest_sameSensing l _ _ (judgeFrame_effect l _ _ _))
    · exact setReceiver_discardFrame_sameSensing s l .waiting
  · exact setReceiver_discardFrame_sameSensing s l .waiting

theorem frameByte_sameSensing (s : State) (l : Link) (taken : List Byte) (b : Byte) :
    SameSensing s (s.frameByte l taken b) := by
  unfold State.frameByte
  split
  · split
    · exact setReceiver_discardFrame_sameSensing s l .waiting
    · exact setReceiver_sameSensing s l _
  · split
    · exact setReceiver_sameSensing s l _
    · exact frameComplete_sameSensing s l _

theorem linkByteReceived_sameSensing {s t : State} {l : Link} {b : Byte} {fe : Bool}
    (e : exec (.linkByteReceived l b fe) s = .next t) : SameSensing s t := by
  cases e
  split
  · exact .refl s
  · split
    · split
      · exact setReceiver_sameSensing s l _
      · exact .refl s
    · split
      · exact setReceiver_discardFrame_sameSensing s l .waiting
      · exact frameByte_sameSensing s l _ b

theorem linkFrameTimeout_sameSensing {s t : State} {l : Link} (e : exec (.linkFrameTimeout l) s = .next t) :
    SameSensing s t := by
  cases e
  split
  · exact .refl s
  · exact setReceiver_discardFrame_sameSensing s l .waiting

/-! ### The chain's events -/

theorem withCycle_only (s : State) (y : Option Cycle) : OnlyChain s { s with cycle := y } :=
  ⟨_, _, _, _, _, _, _, _, _, _, _, _, _, rfl⟩

theorem takeWait_only (s : State) (c : Cycle) (w n : Nat) (e : Bool) : OnlyChain s (s.takeWait c w n e) := by
  unfold State.takeWait
  split
  · split
    · exact withCycle_only s _
    · exact attemptFailed_only s c _
  · split
    · exact attemptFailed_only s c _
    · exact withCycle_only s _

theorem replyByte_only (s : State) (c : Cycle) (w n : Nat) (e : Bool) (bytes : List Byte) :
    OnlyChain s (s.replyByte c w n e bytes) := by
  unfold State.replyByte
  split
  · exact withCycle_only s _
  · exact attemptFailed_only s c _
  · split
    · exact slotEnd_only s _ _
    · exact takeWait_only s c w n e
    · exact attemptFailed_only s c _

theorem overrun_sameSensing (s : State) : SameSensing s s.overrun :=
  SameSensing.trans (t := { s with overruns := bump 65535 s.overruns, overrunWaiting := true, cycleTimer := none })
    ⟨rfl, rfl, fun _ => rfl⟩ (post_sameSensing _ _)

theorem cycleTimerExpiry_sameSensing {s t : State} (e : exec .cycleTimerExpiry s = .next t) : SameSensing s t := by
  cases e
  split
  · exact .refl s
  · split
    · exact overrun_sameSensing s
    · split
      · exact .refl s
      · exact (cycleStart_only s).sameSensing

theorem chainFrameSent_sameSensing {s t : State} (e : exec .chainFrameSent s = .next t) : SameSensing s t := by
  cases e
  split
  · split
    · exact (withCycle_only s _).sameSensing
    · exact .refl s
  · exact .refl s

theorem replyWindowExpiry_sameSensing {s t : State} (e : exec .replyWindowExpiry s = .next t) : SameSensing s t := by
  cases e
  split
  · split
    · exact (attemptFailed_only s _ _).sameSensing
    · exact (withCycle_only s _).sameSensing
    · exact .refl s
  · exact .refl s

theorem chainByteReceived_sameSensing {s t : State} {b : Byte} (e : exec (.chainByteReceived b) s = .next t) :
    SameSensing s t := by
  cases e
  split
  · split
    · exact .refl s
    · split
      · exact (withCycle_only s _).sameSensing
      · exact .refl s
    · exact (replyByte_only s _ _ _ _ _).sameSensing
  · exact .refl s

theorem chainReplyGapTimeout_sameSensing {s t : State} (e : exec .chainReplyGapTimeout s = .next t) : SameSensing s t := by
  cases e
  split
  · split
    · exact (attemptFailed_only s _ _).sameSensing
    · exact .refl s
    · exact .refl s
  · exact .refl s

/-! ### The one-second event -/

theorem lapseClaim_sameSensing (i : FaceNo) (s : State) : SameSensing s (s.lapseClaim i) := by
  rw [lapseClaim_eq]
  exact SameSensing.trans (t := { s with claims := s.claims.set i none, lapsed := faceInsert s.lapsed i })
    ⟨rfl, rfl, fun _ => rfl⟩ (post_sameSensing _ _)

theorem claimsSecond_sameSensing (s : State) : SameSensing s s.claimsSecond := by
  rw [claimsSecond_eq]
  exact SameSensing.trans
    (t := { s with claims := s.claims.map (fun c => c.bind Claim.second), lapsed := s.lapsed ||| faceSetOf s.lapsing })
    ⟨rfl, rfl, fun _ => rfl⟩ (postAll_only _ _).sameSensing

theorem autoSnapshotNow_sameSensing (s : State) : SameSensing s s.autoSnapshotNow :=
  SameSensing.trans (t := State.takeSnapshot { s with autoCount := 0 }) ⟨rfl, rfl, fun _ => rfl⟩ (post_sameSensing _ _)

theorem bankSecond_sameSensing (s : State) : SameSensing s s.bankSecond := by
  unfold State.bankSecond
  split
  · split
    · exact autoSnapshotNow_sameSensing s
    · exact ⟨rfl, rfl, fun _ => rfl⟩
  · exact .refl s

theorem claimsAndBankSecond_sameSensing (s : State) : SameSensing s s.claimsAndBankSecond := by
  unfold State.claimsAndBankSecond
  split
  · have hchoice : SameSensing s { s with freeChoices := s.freeChoices + 1 } := ⟨rfl, rfl, fun _ => rfl⟩
    dsimp only
    split
    · exact hchoice.trans ((bankSecond_sameSensing _).trans (claimsSecond_sameSensing _))
    · exact hchoice.trans ((claimsSecond_sameSensing _).trans (bankSecond_sameSensing _))
  · exact (claimsSecond_sameSensing _).trans (bankSecond_sameSensing _)

theorem oneSecondEvent_sameSensing {s t : State} (e : exec .oneSecondEvent s = .next t) : SameSensing s t := by
  cases e
  split
  · exact .refl s
  · have htime : SameSensing s { s with seconds := s.seconds + 1#16, dayClock := s.dayClock.map nextSecondOfDay } :=
      ⟨rfl, rfl, fun _ => rfl⟩
    exact (htime.trans (claimsAndBankSecond_sameSensing _)).trans ⟨rfl, rfl, fun _ => rfl⟩

theorem claimLapse_sameSensing {s t : State} {i : FaceNo} (e : exec (.claimLapse i) s = .next t) : SameSensing s t := by
  cases e
  split
  · split
    · exact lapseClaim_sameSensing i s
    · exact .refl s
  · exact .refl s

theorem autoSnapshot_sameSensing {s t : State} (e : exec .autoSnapshot s = .next t) : SameSensing s t := by
  cases e
  split
  · exact autoSnapshotNow_sameSensing s
  · exact .refl s

theorem holdoffExpiry_sameSensing {s t : State} (e : exec .holdoffExpiry s = .next t) : SameSensing s t := by
  cases e
  split
  · exact ⟨rfl, rfl, fun _ => rfl⟩
  · exact .refl s

/-! ### One sensor's record (R28 to R31, R37) -/

theorem cleared_inv : SensorRecordInv Sensor.cleared := by simp [SensorRecordInv, Sensor.cleared]

theorem fresh_inv (named : Bool) : SensorRecordInv (Sensor.fresh named) := by cases named <;> simp [SensorRecordInv, Sensor.fresh]

theorem afterNaming_inv {x : Sensor} (h : SensorRecordInv x) (named : Bool) : SensorRecordInv (x.afterNaming named) := by
  unfold Sensor.afterNaming
  split
  · exact fresh_inv named
  · exact h

/-- R28: after the naming has acted the sensors in use are those named. -/
theorem afterNaming_used {named : Bool} (h : named = true) (x : Sensor) : (x.afterNaming named).health ≠ .unused := by
  subst h
  unfold Sensor.afterNaming
  split
  · simp [Sensor.fresh]
  · rename_i hmoves; simpa [Sensor.moves] using hmoves

theorem validRead_inv {x : Sensor} {lux : Nat} (h : SensorRecordInv x) (hu : x.health ≠ .unused) (hl : lux ≤ 100000) :
    SensorRecordInv (x.validRead lux) := by
  obtain ⟨health, misses, valids, reading⟩ := x
  cases health with
  | unused => exact absurd rfl hu
  | doubtful => simp [SensorRecordInv, Sensor.validRead, hl]
  | good => simp_all [SensorRecordInv, Sensor.validRead]
  | failed =>
    by_cases hsecond : 2 ≤ valids + 1
    · simp [SensorRecordInv, Sensor.validRead, hsecond, hl]
    · simp_all [SensorRecordInv, Sensor.validRead]

theorem validRead_used {x : Sensor} (hu : x.health ≠ .unused) (lux : Nat) : (x.validRead lux).health ≠ .unused := by
  obtain ⟨health, misses, valids, reading⟩ := x
  cases health with
  | unused => exact absurd rfl hu
  | doubtful => simp [Sensor.validRead]
  | good => simp [Sensor.validRead]
  | failed => simp only [Sensor.validRead]; split <;> simp

theorem failedRead_inv {x : Sensor} (h : SensorRecordInv x) : SensorRecordInv x.failedRead := by
  obtain ⟨health, misses, valids, reading⟩ := x
  cases health with
  | unused => exact h
  | good => simp_all [SensorRecordInv, Sensor.failedRead]
  | failed => simp_all [SensorRecordInv, Sensor.failedRead]
  | doubtful =>
    by_cases hfourth : 4 ≤ misses + 1
    · simp_all [SensorRecordInv, Sensor.failedRead]
    · obtain ⟨hreading, _, hdoubtful, _⟩ := h
      simp only [Sensor.failedRead, if_neg hfourth]
      exact ⟨hreading, nofun, fun _ => ⟨Nat.le_of_lt_succ (Nat.not_le.mp hfourth), (hdoubtful rfl).2⟩, nofun, nofun⟩

theorem failedRead_used {x : Sensor} (hu : x.health ≠ .unused) : x.failedRead.health ≠ .unused := by
  obtain ⟨health, misses, valids, reading⟩ := x
  cases health with
  | unused => exact absurd rfl hu
  | good => simp [Sensor.failedRead]
  | failed => simp [Sensor.failedRead]
  | doubtful => simp only [Sensor.failedRead]; split <;> simp

theorem afterPoll_inv {x : Sensor} {reading : Option Nat} (h : SensorRecordInv x) (hu : x.health ≠ .unused)
    (hr : ∀ v ∈ reading, v ≤ 100000) : SensorRecordInv (x.afterPoll reading) := by
  cases reading with
  | none => exact failedRead_inv h
  | some lux => exact validRead_inv h hu (hr lux rfl)

theorem afterPoll_used {x : Sensor} (hu : x.health ≠ .unused) (reading : Option Nat) : (x.afterPoll reading).health ≠ .unused := by
  cases reading with
  | none => exact failedRead_used hu
  | some lux => exact validRead_used hu lux

/-! ### The scan's events -/

/-- The sensors' records and the estimates, without the scan. -/
structure RecordsGood (s : State) : Prop where
  sensors : ∀ n, SensorRecordInv (s.sensors.get n)
  ambient : ∀ n, (s.zones.get n).ambient ≤ 100000
  config : ∀ n, ZoneConfigInv (s.zones.get n).config

theorem SensorInv.records {s : State} (h : SensorInv s) (hs : SettingInv s) : RecordsGood s := by
  obtain ⟨hrecords, _, hambient⟩ := h
  obtain ⟨_, _, _, _, _, _, hconfig, _⟩ := hs
  exact ⟨hrecords, hambient, hconfig⟩

theorem RecordsGood.onlyNotices {s t : State} (h : RecordsGood s) (e : OnlyNotices s t) : RecordsGood t := by
  obtain ⟨q, c, o, rfl⟩ := e
  exact ⟨h.sensors, h.ambient, h.config⟩

theorem RecordsGood.goodReadings_le {s : State} (h : RecordsGood s) (n : Naming) : ∀ v ∈ s.goodReadings n, v ≤ 100000 := by
  intro v hv
  obtain ⟨k, _, hk⟩ := List.mem_filterMap.mp hv
  split at hk
  · exact (h.sensors k).1 v hk
  · cases hk

/-- R33: the sample is one of the readings, or the fallback. -/
theorem sample_le {readings : List Nat} {fallback top : Nat} (h : ∀ v ∈ readings, v ≤ top) (hf : fallback ≤ top) :
    readings.min?.getD fallback ≤ top := by
  cases hmin : readings.min? with
  | none => exact hf
  | some v => exact h v (List.min?_mem hmin)

theorem updated_ambient (z : Zone) (readings : List Nat) :
    (z.updated readings).ambient =
      filterStep z.ambient (readings.min?.getD z.config.fallback) z.config.falling z.config.rising :=
  (filterStep_eq _ _ _ _).symm

/-- R34: an update keeps the estimate in range, since the sample and the old estimate lie in it. -/
theorem updated_ambient_le {z : Zone} {readings : List Nat} (hc : ZoneConfigInv z.config) (ha : z.ambient ≤ 100000)
    (hr : ∀ v ∈ readings, v ≤ 100000) : (z.updated readings).ambient ≤ 100000 := by
  obtain ⟨hfallback, ⟨_, hrising⟩, ⟨hone, hfalling⟩, _⟩ := hc
  rw [updated_ambient]
  exact filterStep_le hone hfalling hrising ha (sample_le hr hfallback)

/-- R32: scan completion updates the zones and ends the scan. -/
theorem RecordsGood.completeScan {s : State} (h : RecordsGood s) (naming : Table Naming 8) :
    SensorInv (s.completeScan naming) := by
  rw [completeScan_eq]
  refine (postAll_only _ _).sameSensing.sensorInv ⟨h.sensors, fun _ => nofun, fun n => ?_⟩
  dsimp only
  rw [Table.get_mapNo, ← sensors_eq_distinct]
  exact updated_ambient_le (h.config n) (h.ambient n) (h.goodReadings_le _)

/-- R28: a poll follows of a sensor in use, or the scan completes. -/
theorem RecordsGood.pollFrom {s : State} (h : RecordsGood s) (naming : Table Naming 8) {l : List SensorNo}
    (hl : ∀ n ∈ l, (s.sensors.get n).health ≠ .unused) : SensorInv (s.pollFrom naming l) := by
  cases l with
  | nil => exact h.completeScan naming
  | cons n todo =>
    refine ⟨h.sensors, ?_, h.ambient⟩
    rintro _ ⟨⟩
    exact hl

theorem RecordsGood.startScan {s : State} (h : RecordsGood s) : SensorInv s.startScan := by
  unfold State.startScan
  dsimp only
  rw [foldl_nameSensor]
  generalize s.zones.map (fun z => z.config.naming) = naming
  have hrenamed : RecordsGood { s with sensors := s.sensors.mapNo (fun n x => x.afterNaming (names naming n)) } :=
    ⟨fun n => by rw [Table.get_mapNo]; exact afterNaming_inv (h.sensors n) _, h.ambient, h.config⟩
  refine (hrenamed.onlyNotices (postAll_only _ _)).pollFrom naming fun n hn => ?_
  rw [(postAll_only _ _).sameSensing.sensors]
  dsimp only
  rw [Table.get_mapNo]
  exact afterNaming_used (List.mem_filter.mp hn).2 _

theorem changeSensor_sensors (s : State) (n : SensorNo) (x : Sensor) : (s.changeSensor n x).sensors = s.sensors.set n x := by
  rw [changeSensor_eq, (postAll_only _ _).sameSensing.sensors, setSensor_sensors]

theorem RecordsGood.changeSensor {s : State} (h : RecordsGood s) (n : SensorNo) {x : Sensor} (hx : SensorRecordInv x) :
    RecordsGood (s.changeSensor n x) := by
  rw [changeSensor_eq]
  refine RecordsGood.onlyNotices (s := s.setSensor n x) ⟨fun k => ?_, h.ambient, h.config⟩ (postAll_only _ _)
  rw [setSensor_sensors, Table.get_set]
  split
  · exact hx
  · exact h.sensors k

/-- R29 to R31: a poll's end leaves its sensor in use, and the others as they are. -/
theorem SensorInv.endPoll {s : State} {c : Scan} (h : SensorInv s) (hs : SettingInv s) (hc : s.scan = some c)
    (signals : List BusSignal) {reading : Option Nat} (hr : ∀ v ∈ reading, v ≤ 100000) :
    SensorInv (s.endPoll c signals reading) := by
  obtain ⟨hrecords, hscan, _⟩ := id h
  have hused := hscan c hc
  have hpolled := hused c.polling List.mem_cons_self
  have hgood := h.records hs
  have hbus : RecordsGood { s with busEnd := signals } := ⟨hgood.sensors, hgood.ambient, hgood.config⟩
  have hend : s.endPoll c signals reading =
      (State.changeSensor { s with busEnd := signals } c.polling ((s.sensors.get c.polling).afterPoll reading)).pollFrom
        c.naming c.todo := by cases reading <;> rfl
  rw [hend]
  refine (hbus.changeSensor c.polling (afterPoll_inv (hrecords _) hpolled hr)).pollFrom c.naming fun n hn => ?_
  rw [changeSensor_sensors, Table.get_set]
  split
  · exact afterPoll_used hpolled reading
  · exact hused n (List.mem_cons_of_mem _ hn)

theorem scanTimerExpiry_keeps_sensors {s t : State} (h : SensorInv s) (hs : SettingInv s)
    (e : exec .scanTimerExpiry s = .next t) : SensorInv t := by
  cases e
  split
  · exact h
  · have hgood := h.records hs
    exact RecordsGood.startScan ⟨hgood.sensors, hgood.ambient, hgood.config⟩

theorem sensorPollEnd_keeps_sensors {s t : State} {r : PollEnd} (h : SensorInv s) (hs : SettingInv s)
    (e : exec (.sensorPollEnd r) s = .next t) : SensorInv t := by
  cases e
  split
  · rename_i c hc
    split
    · refine h.endPoll hs hc _ ?_
      rintro _ ⟨⟩
      exact luxOf_le _ _ _
    · exact h.endPoll hs hc _ nofun
  · exact h

theorem sensorPollTimeout_keeps_sensors {s t : State} (h : SensorInv s) (hs : SettingInv s)
    (e : exec .sensorPollTimeout s = .next t) : SensorInv t := by
  cases e
  split
  · rename_i c hc; exact h.endPoll hs hc _ nofun
  · exact h

/-! ### Resets -/

/-- Every zone's fallback lies in range, so that an estimate may be set to it. -/
def FallbacksGood (s : State) : Prop := ∀ n, (s.zones.get n).config.fallback ≤ 100000

theorem SettingInv.fallbacks {s : State} (h : SettingInv s) : FallbacksGood s := by
  obtain ⟨_, _, _, _, _, _, hconfig, _⟩ := h
  exact fun n => (hconfig n).1

/-- R37: a reset clears the sensors' records and sets every estimate to its zone's fallback. -/
theorem clearKnowledge_sensorInv {s : State} (h : FallbacksGood s) : SensorInv s.clearKnowledge := by
  refine ⟨fun n => ?_, fun _ => nofun, fun n => ?_⟩
  · show SensorRecordInv ((Table.replicate 4 Sensor.cleared).get n)
    rw [Table.get_replicate]
    exact cleared_inv
  · show ((s.zones.map (fun z => Zone.cleared z.config)).get n).ambient ≤ 100000
    rw [Table.get_map]
    exact h n

theorem beginReset_sensorInv {s : State} (h : FallbacksGood s) (cause : ResetCause) : SensorInv (s.beginReset cause) :=
  clearKnowledge_sensorInv h

theorem beginReset_fallbacks {s : State} (h : FallbacksGood s) (cause : ResetCause) : FallbacksGood (s.beginReset cause) := by
  intro n
  show ((s.zones.map (fun z => Zone.cleared z.config)).get n).config.fallback ≤ 100000
  rw [Table.get_map]
  exact h n

theorem coldConfiguration_fallbacks (s : State) (w : Width) : FallbacksGood (s.coldConfiguration w) := by
  intro n
  show ((s.zones.map (fun z : Zone => { z with config := ZoneConfig.cold w })).get n).config.fallback ≤ 100000
  rw [Table.get_map]
  show 400 ≤ 100000
  decide

theorem finishReset_sensorInv {s : State} (h : FallbacksGood s) (cause : ResetCause) (straps : Straps) :
    SensorInv (s.finishReset cause straps) := by
  have hkept : FallbacksGood (if cause.cold then s.coldConfiguration (strapWidth straps) else s) := by
    split
    · exact coldConfiguration_fallbacks s _
    · exact h
  unfold State.finishReset
  refine (cycleStart_only _).sameSensing.sensorInv ((post_sameSensing _ _).sensorInv ?_)
  exact clearKnowledge_sensorInv hkept

theorem tryFinish_sensorInv {s : State} (h : SensorInv s) (hf : FallbacksGood s) (straps : Straps) :
    SensorInv (s.tryFinish straps) := by
  unfold State.tryFinish
  split
  · split
    · exact finishReset_sensorInv hf _ straps
    · exact h
  · exact h

theorem replySent_keeps_sensors {s t : State} {l : Link} {straps : Straps} (h : SensorInv s) (hs : SettingInv s)
    (e : exec (.replySent l straps) s = .next t) : SensorInv t := by
  cases e
  split
  · have hsent := setPort_sameSensing s l { s.port l with reply := none }
    have hfallbacks : FallbacksGood (s.setPort l { s.port l with reply := none }) := by
      unfold FallbacksGood; rw [setPort_zones]; exact hs.fallbacks
    dsimp only
    split
    · exact tryFinish_sensorInv (beginReset_sensorInv hfallbacks _) (beginReset_fallbacks hfallbacks _) straps
    · exact hsent.sensorInv h
  · exact h

theorem resetPinLow_keeps_sensors {s t : State} (h : SensorInv s) (hs : SettingInv s) (e : exec .resetPinLow s = .next t) :
    SensorInv t := by
  cases e
  split
  · exact h
  · exact beginReset_sensorInv (s := { s with resetLine := { s.resetLine with pinLow := true } }) hs.fallbacks .pin

theorem supplyDip_keeps_sensors {s t : State} (h : SensorInv s) (hs : SettingInv s) (e : exec .supplyDip s = .next t) :
    SensorInv t := by
  cases e
  split
  · exact beginReset_sensorInv (s := { s with resetLine := { s.resetLine with supply := .dipped } }) hs.fallbacks .supplyDip
  · exact h

theorem supplyOff_keeps_sensors {s t : State} (hs : SettingInv s) (e : exec .supplyOff s = .next t) : SensorInv t := by
  cases e
  exact beginReset_sensorInv (s := { s with resetLine := { s.resetLine with supply := .off } }) hs.fallbacks .powerOn

theorem resetPinRelease_keeps_sensors {s t : State} {straps : Straps} (h : SensorInv s) (hs : SettingInv s)
    (e : exec (.resetPinRelease straps) s = .next t) : SensorInv t := by
  cases e
  exact tryFinish_sensorInv (s := { s with resetLine := { s.resetLine with pinLow := false } }) h hs.fallbacks straps

theorem supplyRecovery_keeps_sensors {s t : State} {straps : Straps} (h : SensorInv s) (hs : SettingInv s)
    (e : exec (.supplyRecovery straps) s = .next t) : SensorInv t := by
  cases e
  exact tryFinish_sensorInv (s := { s with resetLine := { s.resetLine with supply := .working } }) h hs.fallbacks straps

/-! ### Every command, every step -/

theorem request_sameSensing {i : Instr} {r : Request} {s t : State} (hi : i.request = some r) (e : exec i s = .next t) :
    SameSensing s t := by
  rw [exec_request hi] at e
  cases e
  exact takeRequest_sameSensing _ _ _ (judgeKind_effect r.kind r.payload s)

theorem exec_keeps_sensors {i : Instr} {s t : State} (hs : SettingInv s) (h : SensorInv s) (e : exec i s = .next t) :
    SensorInv t := by
  cases i
  case linkByteReceived => exact (linkByteReceived_sameSensing e).sensorInv h
  case linkFrameTimeout => exact (linkFrameTimeout_sameSensing e).sensorInv h
  case replySent => exact replySent_keeps_sensors h hs e
  case cycleTimerExpiry => exact (cycleTimerExpiry_sameSensing e).sensorInv h
  case chainFrameSent => exact (chainFrameSent_sameSensing e).sensorInv h
  case replyWindowExpiry => exact (replyWindowExpiry_sameSensing e).sensorInv h
  case chainByteReceived => exact (chainByteReceived_sameSensing e).sensorInv h
  case chainReplyGapTimeout => exact (chainReplyGapTimeout_sameSensing e).sensorInv h
  case scanTimerExpiry => exact scanTimerExpiry_keeps_sensors h hs e
  case sensorPollEnd => exact sensorPollEnd_keeps_sensors h hs e
  case sensorPollTimeout => exact sensorPollTimeout_keeps_sensors h hs e
  case oneSecondEvent => exact (oneSecondEvent_sameSensing e).sensorInv h
  case claimLapse => exact (claimLapse_sameSensing e).sensorInv h
  case autoSnapshot => exact (autoSnapshot_sameSensing e).sensorInv h
  case holdoffExpiry => exact (holdoffExpiry_sameSensing e).sensorInv h
  case resetPinLow => exact resetPinLow_keeps_sensors h hs e
  case resetPinRelease => exact resetPinRelease_keeps_sensors h hs e
  case supplyDip => exact supplyDip_keeps_sensors h hs e
  case supplyOff => exact supplyOff_keeps_sensors hs e
  case supplyRecovery => exact supplyRecovery_keeps_sensors h hs e
  all_goals exact (request_sameSensing rfl e).sensorInv h

/-- What a step does: it idles, or runs the command at the front of the queue with the rest behind it. -/
theorem step_cases {s t : State} (h : step s = .next t) :
    t = s ∨ ∃ i rest, s.pending = i :: rest ∧ exec i { s with pending := rest } = .next t := by
  unfold step at h
  split at h
  · cases h; exact .inl rfl
  · rename_i i rest hpending; exact .inr ⟨i, rest, hpending, h⟩

/-- Settles O59: every command keeps the sensors' invariant where the settings are in range; neither reads the queue of commands. -/
theorem stepKeepsSensors : Obligations.StepKeepsSensors := by
  unfold Obligations.StepKeepsSensors
  intro s t hs h hstep
  rcases step_cases hstep with rfl | ⟨i, rest, _, e⟩
  · exact h
  · have hs' : SettingInv { s with pending := rest } := hs
    have h' : SensorInv { s with pending := rest } := h
    exact exec_keeps_sensors hs' h' e

end Sys2Proof.Machine
end

section
/-! LOAD_CURVE (O24): a payload's breakpoints read back, R47's conditions as the model tests them, and where a list is stored. -/

namespace Sys2Proof.Machine

/-! ### The breakpoints of a payload (R49) -/

theorem readBreakpoints_cons (n : Nat) {p : Breakpoint} (hx : p.x < 256 ^ 3) (hy : p.y < 256 ^ 2) (rest : List Byte) :
    readBreakpoints (n + 1) (fieldBytes 3 p.x ++ fieldBytes 2 p.y ++ rest) = (readBreakpoints n rest).map (p :: ·) := by
  have hreadX := readBytes_fieldBytes 3 p.x hx
  have hreadY := readBytes_fieldBytes 2 p.y hy
  simp only [fieldBytes] at hreadX hreadY
  simp only [fieldBytes, List.cons_append, List.nil_append, readBreakpoints, hreadX, hreadY]

theorem readBreakpoints_flatMap {l : List Breakpoint} (h : ∀ p ∈ l, p.x < 16777216 ∧ p.y < 65536) :
    readBreakpoints l.length (l.flatMap (fun p => fieldBytes 3 p.x ++ fieldBytes 2 p.y)) = some l := by
  induction l with
  | nil => rfl
  | cons p l ih =>
    obtain ⟨⟨hx, hy⟩, hrest⟩ := List.forall_mem_cons.mp h
    rw [List.flatMap_cons, List.length_cons, readBreakpoints_cons _ hx hy, ih hrest, Option.map_some]

theorem length_of_readBreakpoints {n : Nat} {bs : List Byte} {l : List Breakpoint} (h : readBreakpoints n bs = some l) :
    bs.length = 5 * n := by
  induction n, bs using readBreakpoints.induct generalizing l with
  | case1 => rfl
  | case2 n a b c d e rest ih =>
    obtain ⟨l', hl', -⟩ := Option.map_eq_some_iff.mp h
    simp only [List.length_cons, ih hl']
    omega
  | case3 n bs h0 h5 => rw [readBreakpoints.eq_3 _ _ h0 h5] at h; cases h

/-! ### The valid lists (R47) -/

/-- R47: each breakpoint lies to the right of every one before it, and not below it. -/
abbrev Rising (l : List Breakpoint) : Prop := l.Pairwise (fun p q => p.x < q.x ∧ p.y ≤ q.y)

/-- The model compares each breakpoint with the one before it; as the order is transitive, this compares every two. -/
theorem risingFrom_iff (p : Breakpoint) (l : List Breakpoint) : risingFrom p l = true ↔ Rising (p :: l) := by
  have htrans : IsTrans Breakpoint (fun p q => p.x < q.x ∧ p.y ≤ q.y) :=
    ⟨fun _ _ _ h₁ h₂ => ⟨h₁.1.trans h₂.1, h₁.2.trans h₂.2⟩⟩
  rw [Rising, ← List.isChain_iff_pairwise]
  induction l generalizing p with
  | nil => simp [risingFrom]
  | cons q rest ih => simp [risingFrom, ih]

theorem validCurve_iff (l : List Breakpoint) : validCurve l = true ↔ ValidList l := by
  cases l with
  | nil => simp [validCurve]
  | cons p rest =>
    simp only [validCurve, Bool.and_eq_true, decide_eq_true_eq, List.all_eq_true, risingFrom_iff, ValidList, and_assoc]

/-! ### Where a list goes (R50, R51) -/

theorem judgeLoadCurve_curvePayload (number : Byte) {l : List Breakpoint} (hlen : l.length < 256)
    (hfit : ∀ p ∈ l, p.x < 16777216 ∧ p.y < 65536) (s : State) :
    judgeLoadCurve (curvePayload number l) s = judgeCurve number l s := by
  have hcount : (BitVec.ofNat 8 l.length).toNat = l.length := by rw [BitVec.toNat_ofNat]; exact Nat.mod_eq_of_lt hlen
  simp only [judgeLoadCurve, curvePayload, hcount, readBreakpoints_flatMap hfit]

theorem judgeLoadCurve_badLength (number : Byte) {count : Byte} {rest : List Byte} (h : rest.length ≠ 5 * count.toNat) (s : State) :
    judgeLoadCurve (number :: count :: rest) s = (.refused .badLength, s) := by
  have hnone : readBreakpoints count.toNat rest = none :=
    Option.eq_none_iff_forall_ne_some.mpr fun l hl => h (length_of_readBreakpoints hl)
  simp only [judgeLoadCurve, hnone, refuse]

theorem judgeCurve_badNumber {number : Byte} (h : ¬ number.toNat < 8) (l : List Breakpoint) (s : State) :
    judgeCurve number l s = (.refused .badValue, s) := by
  simp only [judgeCurve, readCurveNo, dif_neg h, refuse]

theorem judgeCurve_invalid (number : Byte) {l : List Breakpoint} (h : ¬ ValidList l) (s : State) :
    judgeCurve number l s = (.refused .badValue, s) := by
  rw [← validCurve_iff] at h
  by_cases hn : number.toNat < 8
  · simp only [judgeCurve, readCurveNo, dif_pos hn, if_neg h, refuse]
  · exact judgeCurve_badNumber hn l s

theorem judgeCurve_valid {number : Byte} (hn : number.toNat < 8) {l : List Breakpoint} (h : ValidList l) (s : State) :
    judgeCurve number l s =
      (.done false ([number] ++ fieldBytes 1 l.length ++ [flagByte (!decide (s.mode = .halted))]),
        { s with
          curves := s.curves.set ⟨number.toNat, hn⟩ ((s.curves.get ⟨number.toNat, hn⟩).load (decide (s.mode = .halted)) l) }) := by
  have hbyte : bytes1 number.toNat = [number] := by rw [bytes1, BitVec.ofNat_toNat, BitVec.setWidth_eq]
  simp only [judgeCurve, readCurveNo, dif_pos hn, if_pos ((validCurve_iff l).mpr h), hbyte, bytes1_eq]
  rfl

/-- Settles O24: R49's tests in their order, then the mode. -/
theorem loadCurve : Obligations.LoadCurve := by
  unfold Obligations.LoadCurve
  intro tag s hs
  have take : ∀ {payload : List Byte} {a : Answer} {t : State}, judgeLoadCurve payload s = (a, t) →
      exec (.loadCurve tag payload) s = .next (t.answered .loadCurve tag a) :=
    fun {payload _ _} hj => exec_taken (r := ⟨.loadCurve, tag, payload⟩) rfl hs hj
  refine ⟨fun payload hshort => ?_, fun number count rest h => take (judgeLoadCurve_badLength number h s), ?_⟩
  · rcases payload with _ | ⟨a, _ | ⟨b, rest⟩⟩
    · exact take rfl
    · exact take rfl
    · simp only [List.length_cons] at hshort; omega
  · intro number l hlen hfit
    have hload := judgeLoadCurve_curvePayload number hlen hfit s
    by_cases hn : number.toNat < 8
    · rw [dif_pos hn]
      by_cases hl : ValidList l
      · rw [if_pos hl, take (hload.trans (judgeCurve_valid hn hl s))]
        by_cases hm : s.mode = .halted
        · rw [if_pos hm, decide_eq_true hm]; rfl
        · rw [if_neg hm, decide_eq_false hm]; rfl
      · rw [if_neg hl, take (hload.trans (judgeCurve_invalid number hl s))]
    · rw [dif_neg hn, take (hload.trans (judgeCurve_badNumber hn l s))]

end Sys2Proof.Machine
end

section
/-! The lookup of a curve (O25): the interpolation on one segment, the lookup segment by segment, and its bounds. -/

namespace Sys2Proof.Machine

/-! ### One segment (R57) -/

/-- R57: the luminance between two breakpoints, rounded down. -/
def interpolate (p q : Breakpoint) (a : Nat) : Nat := p.y + (q.y - p.y) * (a - p.x) / (q.x - p.x)

theorem interpolate_left {p q : Breakpoint} {a : Nat} (h : a ≤ p.x) : interpolate p q a = p.y := by
  simp [interpolate, Nat.sub_eq_zero_of_le h]

theorem interpolate_flat {p q : Breakpoint} (h : q.y = p.y) (a : Nat) : interpolate p q a = p.y := by
  simp [interpolate, h]

theorem le_interpolate (p q : Breakpoint) (a : Nat) : p.y ≤ interpolate p q a := Nat.le_add_right _ _

theorem interpolate_le {p q : Breakpoint} {a : Nat} (hy : p.y ≤ q.y) (h : a ≤ q.x) : interpolate p q a ≤ q.y := by
  have hrise : (q.y - p.y) * (a - p.x) / (q.x - p.x) ≤ q.y - p.y :=
    Nat.div_le_of_le_mul (by rw [Nat.mul_comm]; exact Nat.mul_le_mul_right _ (Nat.sub_le_sub_right h _))
  unfold interpolate
  omega

theorem interpolate_mono (p q : Breakpoint) {a b : Nat} (h : a ≤ b) : interpolate p q a ≤ interpolate p q b :=
  Nat.add_le_add_left (Nat.div_le_div_right (Nat.mul_le_mul_left _ (Nat.sub_le_sub_right h _))) _

/-! ### The lookup, segment by segment (R57) -/

theorem curveLookup_below {p : Breakpoint} {a : Nat} (h : a < p.x) (rest : List Breakpoint) :
    curveLookup (p :: rest) a = p.y := by
  cases rest with
  | nil => rfl
  | cons q rest => simp [curveLookup, h]

/-- Up to the second breakpoint the first segment's interpolation answers; below the first breakpoint its rise is 0. -/
theorem curveLookup_first {p q : Breakpoint} {a : Nat} (h : a < q.x) (rest : List Breakpoint) :
    curveLookup (p :: q :: rest) a = interpolate p q a := by
  by_cases hp : a < p.x
  · rw [curveLookup_below hp, interpolate_left hp.le]
  · simp [curveLookup, interpolate, h, hp]

theorem curveLookup_later {p q : Breakpoint} {a : Nat} (hpq : p.x < q.x) (h : q.x ≤ a) (rest : List Breakpoint) :
    curveLookup (p :: q :: rest) a = curveLookup (q :: rest) a := by
  simp [curveLookup, (hpq.trans_le h).not_gt, h.not_gt]

/-- The breakpoints before one that the light has reached play no part. -/
theorem curveLookup_append {before rest : List Breakpoint} {p : Breakpoint} {a : Nat} (hr : Rising (before ++ p :: rest))
    (h : p.x ≤ a) : curveLookup (before ++ p :: rest) a = curveLookup (p :: rest) a := by
  induction before with
  | nil => rfl
  | cons b before ih =>
    obtain ⟨hb, hr'⟩ := List.pairwise_cons.mp hr
    cases before with
    | nil => exact curveLookup_later (hb p List.mem_cons_self).1 h rest
    | cons c before =>
      have hcp : c.x < p.x := ((List.pairwise_cons.mp hr').1 p (by simp)).1
      exact (curveLookup_later (hb c List.mem_cons_self).1 (hcp.le.trans h) _).trans (ih hr')

theorem curveLookup_segment {before after : List Breakpoint} {p q : Breakpoint} {a : Nat}
    (hr : Rising (before ++ p :: q :: after)) (hp : p.x ≤ a) (hq : a < q.x) :
    curveLookup (before ++ p :: q :: after) a = interpolate p q a := by
  rw [curveLookup_append hr hp, curveLookup_first hq]

theorem curveLookup_last {l : List Breakpoint} (hr : Rising l) {p : Breakpoint} (hp : p ∈ l.getLast?) {a : Nat} (h : p.x ≤ a) :
    curveLookup l a = p.y := by
  obtain ⟨before, rfl⟩ := List.getLast?_eq_some_iff.mp hp
  rw [curveLookup_append hr h]
  rfl

theorem curveLookup_breakpoint {l : List Breakpoint} (hr : Rising l) {p : Breakpoint} (hp : p ∈ l) :
    curveLookup l p.x = p.y := by
  obtain ⟨before, after, rfl⟩ := List.append_of_mem hp
  rw [curveLookup_append hr le_rfl]
  cases after with
  | nil => rfl
  | cons q after =>
    have hpq : p.x < q.x := ((List.pairwise_cons.mp (List.pairwise_append.mp hr).2.1).1 q List.mem_cons_self).1
    rw [curveLookup_first hpq, interpolate_left le_rfl]

/-! ### Bounds (R58) -/

theorem le_curveLookup {p : Breakpoint} {rest : List Breakpoint} (hr : Rising (p :: rest)) (a : Nat) :
    p.y ≤ curveLookup (p :: rest) a := by
  induction rest generalizing p with
  | nil => exact le_rfl
  | cons q rest ih =>
    obtain ⟨hp, hr'⟩ := List.pairwise_cons.mp hr
    obtain ⟨hx, hy⟩ := hp q List.mem_cons_self
    by_cases h : a < q.x
    · rw [curveLookup_first h]; exact le_interpolate p q a
    · rw [curveLookup_later hx (Nat.le_of_not_lt h)]; exact hy.trans (ih hr')

/-- The light rises within the first segment, out of it, or beyond it. -/
theorem curveLookup_mono {l : List Breakpoint} (hr : Rising l) {a b : Nat} (hab : a ≤ b) : curveLookup l a ≤ curveLookup l b := by
  induction l with
  | nil => exact le_rfl
  | cons p rest ih =>
    cases rest with
    | nil => exact le_rfl
    | cons q rest =>
      obtain ⟨hp, hr'⟩ := List.pairwise_cons.mp hr
      obtain ⟨hx, hy⟩ := hp q List.mem_cons_self
      rcases Nat.lt_or_ge b q.x with hb | hb
      · rw [curveLookup_first hb, curveLookup_first (hab.trans_lt hb)]
        exact interpolate_mono p q hab
      · rw [curveLookup_later hx hb]
        rcases Nat.lt_or_ge a q.x with ha | ha
        · rw [curveLookup_first ha]
          exact (interpolate_le hy ha.le).trans (le_curveLookup hr' b)
        · rw [curveLookup_later hx ha]
          exact ih hr'

/-- Beyond the last breakpoint the lookup is that breakpoint's luminance, so by monotonicity it is nowhere more. -/
theorem curveLookup_le {l : List Breakpoint} (hr : Rising l) {m : Nat} (hm : ∀ p ∈ l, p.y ≤ m) (a : Nat) : curveLookup l a ≤ m := by
  cases hlast : l.getLast? with
  | none => rw [List.getLast?_eq_none_iff.mp hlast]; exact Nat.zero_le m
  | some p =>
    calc curveLookup l a ≤ curveLookup l (max a p.x) := curveLookup_mono hr (le_max_left a p.x)
      _ = p.y := curveLookup_last hr hlast (le_max_right a p.x)
      _ ≤ m := hm p (List.mem_of_getLast? hlast)

/-- R58: at most 10,000 nits of rise times 99,999 lux. -/
theorem segmentProduct_le {p q : Breakpoint} (hx : q.x ≤ 100000) (hy : q.y ≤ 10000) {a : Nat} (h : a < q.x) :
    (q.y - p.y) * (a - p.x) ≤ 999990000 :=
  calc (q.y - p.y) * (a - p.x) ≤ 10000 * 99999 := Nat.mul_le_mul (by omega) (by omega)
    _ = 999990000 := by norm_num

theorem head_lt_last {l : List Breakpoint} (hl : 2 ≤ l.length) (hr : Rising l) {p q : Breakpoint} (hp : p ∈ l.head?)
    (hq : q ∈ l.getLast?) : p.x < q.x := by
  rcases l with _ | ⟨p', _ | ⟨r, rest⟩⟩
  · simp at hl
  · simp at hl
  · obtain rfl : p' = p := Option.some.inj hp
    rw [List.getLast?_cons_cons] at hq
    exact ((List.pairwise_cons.mp hr).1 q (List.mem_of_getLast? hq)).1

/-- Settles O25: by the segment that the light lies in. (`curveLookup` itself is the model's function.) -/
theorem curveLookup_of_validList : Obligations.CurveLookup := by
  unfold Obligations.CurveLookup
  rintro l ⟨hlen, -, hrange, hr⟩
  refine ⟨?_, fun p hp a h => curveLookup_last hr hp h, ?_, fun p hp => curveLookup_breakpoint hr hp,
    fun p hp q hq => head_lt_last hlen hr hp hq, curveLookup_le hr fun p hp => (hrange p hp).2,
    fun a b hab => curveLookup_mono hr hab, fun p _ hp a => by omega, fun p _ hp a ha hpa => by omega, ?_⟩
  · intro p hp a h
    obtain ⟨rest, rfl⟩ := List.head?_eq_some_iff.mp hp
    exact curveLookup_below h rest
  · rintro before after p q rfl a hp hq
    obtain ⟨hqx, hqy⟩ := hrange q (by simp)
    have hpq : p.y ≤ q.y := ((List.pairwise_cons.mp (List.pairwise_append.mp hr).2.1).1 q List.mem_cons_self).2
    rw [curveLookup_segment hr hp hq]
    exact ⟨rfl, fun hflat => interpolate_flat hflat a, le_interpolate p q a, interpolate_le hpq hq.le, segmentProduct_le hqx hqy hq⟩
  · rintro s i rfl
    rfl

end Sys2Proof.Machine
end

section
/-! The stages of the Luminance Engine (O43, O44, O46, O47): string compensation, the least of the caps in force, the drive code, and the
slot starts of faces that are kept dark. -/

namespace Sys2Proof.Machine

/-! ### Stages C and D (R63, R64) -/

theorem trimProduct_le {b t : Nat} (hb : b ≤ 10000) (ht : t ≤ 384) : b * t ≤ 3840000 := Nat.mul_le_mul hb ht

theorem trimmed_le {b t : Nat} (hb : b ≤ 10000) (ht : t ≤ 384) : trimmed b t ≤ 15000 := by
  have hproduct := trimProduct_le hb ht
  unfold trimmed
  omega

/-- R63: trim 256 is the factor 1. -/
theorem trimmed_unit (b : Nat) : trimmed b 256 = b := by unfold trimmed; omega

theorem compensates_eq_some {c : Capability} {d dmax : Nat} {asserted : KindSet}
    (h : 1 ≤ c.strings ∧ c.strings ≤ 64 ∧ 1 ≤ d ∧ d ≤ dmax ∧ d < c.strings ∧ kindIn asserted .strings = false) :
    compensates (some c) (some d) dmax asserted = some (c.strings, d) := if_pos h

/-- R64: without a reported string count, or with one outside the conditions, nothing is compensated. -/
theorem compensates_eq_none {cap : Option Capability} {out : Option Nat} {dmax : Nat} {asserted : KindSet}
    (h : cap = none ∨ out = none ∨ kindIn asserted .strings = true ∨ (∃ c ∈ cap, c.strings = 0 ∨ 64 < c.strings) ∨
      (∃ d ∈ out, d = 0 ∨ dmax < d ∨ ∃ c ∈ cap, c.strings ≤ d)) : compensates cap out dmax asserted = none := by
  rcases cap with _ | c
  · rfl
  · rcases out with _ | d
    · rfl
    · refine if_neg ?_
      rintro ⟨hlow, hhigh, hone, hmax, hless, hquiet⟩
      rcases h with h | h | hasserted | ⟨_, ⟨⟩, hstrings⟩ | ⟨_, ⟨⟩, hzero | hover | ⟨_, ⟨⟩, hall⟩⟩
      · cases h
      · cases h
      · rw [hquiet] at hasserted; cases hasserted
      all_goals omega

theorem compensatedFor_eq (s : State) (i : FaceNo) : s.compensatedFor i =
    compensated (trimmed (s.curveLuminance i) (s.faces.get i).config.trim)
      (compensates (s.faces.get i).dyn.capability (s.faces.get i).dyn.stringsOut (s.zoneOf i).config.dmax
        (s.faces.get i).dyn.asserted) := rfl

/-- R64: a face that is not compensated hands its trimmed luminance on. -/
theorem compensatedFor_of_none {s : State} {i : FaceNo}
    (h : compensates (s.faces.get i).dyn.capability (s.faces.get i).dyn.stringsOut (s.zoneOf i).config.dmax
      (s.faces.get i).dyn.asserted = none) :
    s.compensatedFor i = trimmed (s.curveLuminance i) (s.faces.get i).config.trim := by
  rw [compensatedFor_eq, h]; rfl

/-- Settles O43: the bounds of the product give those of the quotient. -/
theorem stageC : Obligations.StageC := by
  unfold Obligations.StageC
  intro b t
  refine ⟨rfl, trimmed_unit b, fun hb ht => ⟨trimmed_le hb ht, trimProduct_le hb ht⟩, rfl, rfl, fun s i hcap => ?_⟩
  exact compensatedFor_of_none (compensates_eq_none (.inl hcap))

/-! ### Stage E (R66) -/

/-- `a` is the least of the values of a list. -/
abbrev LeastOf (a : Nat) (l : List Nat) : Prop := a ∈ l ∧ ∀ v ∈ l, a ≤ v

/-- A cap brought down to one more, where that one is in force. -/
def capWith (a : Nat) : Option Nat → Nat
  | none => a
  | some v => min a v

theorem LeastOf.capWith {a : Nat} {l : List Nat} (h : LeastOf a l) (o : Option Nat) : LeastOf (capWith a o) (l ++ o.toList) := by
  obtain ⟨hmem, hle⟩ := h
  cases o with
  | none => simpa [Machine.capWith] using And.intro hmem hle
  | some v =>
    refine ⟨?_, fun w hw => ?_⟩
    · rcases Nat.le_total a v with hav | hva
      · exact List.mem_append_left _ (by rw [Machine.capWith, Nat.min_eq_left hav]; exact hmem)
      · exact List.mem_append_right _ (by rw [Machine.capWith, Nat.min_eq_right hva]; exact List.mem_singleton_self v)
    · rcases List.mem_append.mp hw with hw | hw
      · exact (Nat.min_le_left a v).trans (hle w hw)
      · rw [List.mem_singleton.mp hw]; exact Nat.min_le_right a v

theorem capInForce_eq (face zone : Nat) (curfew thermal claim : Option Nat) :
    capInForce face zone curfew thermal claim = capWith (capWith (capWith (min (min face zone) 10000) curfew) thermal) claim := by
  cases curfew <;> cases thermal <;> cases claim <;> rfl

/-- R66: three caps are always in force; each of the other three joins them where it is present. -/
theorem capInForce_least (face zone : Nat) (curfew thermal claim : Option Nat) :
    LeastOf (capInForce face zone curfew thermal claim)
      ([face, zone, 10000] ++ curfew.toList ++ thermal.toList ++ claim.toList) := by
  have hfixed : LeastOf (min (min face zone) 10000) [face, zone, 10000] := by
    simp only [LeastOf, List.mem_cons, List.not_mem_nil, or_false, forall_eq_or_imp, forall_eq]
    omega
  rw [capInForce_eq]
  exact ((hfixed.capWith curfew).capWith thermal).capWith claim

theorem capFor_le (s : State) (i : FaceNo) : s.capFor i ≤ 10000 := (capInForce_least _ _ _ _ _).2 10000 (by simp)

theorem capFor_least (s : State) (i : FaceNo) :
    LeastOf (s.capFor i)
      ([(s.faces.get i).config.cap, (s.zoneOf i).config.zoneCap, 10000] ++ (if s.curfew then [(s.zoneOf i).config.curfewCap] else [])
        ++ (if kindIn (s.faces.get i).dyn.asserted .thermal then [(s.faces.get i).config.cap / 2] else [])
        ++ (claimCap (s.claims.get i)).toList) := by
  have hwhere : ∀ (b : Bool) (v : Nat), (if b then [v] else []) = (if b then some v else none).toList := by
    intro b v; cases b <;> rfl
  rw [hwhere, hwhere]
  exact capInForce_least _ _ _ _ _

/-- Settles O44: the caps by their least, the goal and the level as Stages F and G give them, the level bounded by the cap. -/
theorem stagesDToG : Obligations.StagesDToG := by
  unfold Obligations.StagesDToG
  intro s i
  refine ⟨?_, fun h => compensatedFor_of_none (compensates_eq_none h), ?_, rfl, rfl, fun hstep => ?_⟩
  · intro c d hc hd h1 h64 hone hmax hless hquiet
    have hsome := compensates_eq_some ⟨h1, h64, hone, hmax, hless, hquiet⟩
    rw [compensatedFor_eq, hc, hd, State.zoneOf, hsome]
    rfl
  · have hleast := capFor_least s i
    rcases hclaim : s.claims.get i with _ | ⟨_ | v, remaining⟩
    all_goals rw [hclaim] at hleast; exact hleast
  · exact ⟨levelFor_le_capFor hstep, (levelFor_le_capFor hstep).trans (capFor_le s i)⟩

/-! ### Stage H (R74) -/

theorem driveCode_of_ge {c f : Nat} (h : f ≤ c) (w : Width) : driveCode c f w = w.full := if_pos h

theorem driveCode_of_lt {c f : Nat} (h : c < f) (w : Width) : driveCode c f w = (c * w.full + f / 2) / f := if_neg h.not_ge

/-- Below the full scale the rounded product stays below the next multiple. -/
theorem roundedProduct_lt {c f : Nat} (h : c < f) (m : Nat) : c * m + f / 2 < f * (m + 1) := by
  have hproduct : c * m ≤ f * m := Nat.mul_le_mul_right m h.le
  rw [Nat.mul_succ]
  omega

theorem driveCode_le (c f : Nat) (w : Width) : driveCode c f w ≤ w.full := by
  rcases Nat.lt_or_ge c f with h | h
  · rw [driveCode_of_lt h]; exact Nat.lt_succ_iff.mp (Nat.div_lt_of_lt_mul (roundedProduct_lt h w.full))
  · rw [driveCode_of_ge h]

theorem driveCode_zero {f : Nat} (h : 0 < f) (w : Width) : driveCode 0 f w = 0 := by
  rw [driveCode_of_lt h]
  exact Nat.div_eq_of_lt (by omega)

theorem full_le (w : Width) : w.full ≤ 4095 := by cases w <;> decide

/-- Settles O46: by the side of the full scale that the level lies on. -/
theorem stageH : Obligations.StageH := by
  unfold Obligations.StageH
  refine ⟨fun c f m w hw => ?_, fun _ _ => rfl, widthFor_eq, rfl⟩
  obtain rfl : w.full = m := by rcases hw with ⟨rfl, rfl⟩ | ⟨rfl, rfl⟩ <;> rfl
  exact ⟨fun h => driveCode_of_ge h w, fun h => driveCode_of_lt h w, driveCode_le c f w, fun h => driveCode_zero h w,
    fun h => roundedProduct_lt h w.full, fun h => Nat.mul_le_mul h (full_le w)⟩

/-! ### Faces kept dark (R61, R70) -/

/-- R68, rows 1 and 2: a face in CUTOFF, or under a BLANK claim, goes to 0 at once. -/
theorem goalFor_of_dark {s : State} {i : FaceNo}
    (h : (s.faces.get i).dyn.state = .cutoff ∨ (s.claims.get i).map Claim.mode = some .blank) :
    s.goalFor i = ⟨0, .immediate, false⟩ := by
  unfold State.goalFor goalOf
  dsimp only
  by_cases hcutoff : (s.faces.get i).dyn.state = .cutoff
  · rw [if_pos hcutoff]
  · rw [if_neg hcutoff, if_pos (h.resolve_left hcutoff)]

theorem levelFor_of_dark {s : State} {i : FaceNo}
    (h : (s.faces.get i).dyn.state = .cutoff ∨ (s.claims.get i).map Claim.mode = some .blank) : s.levelFor i = 0 := by
  unfold State.levelFor
  rw [goalFor_of_dark h]
  rfl

/-- R10: such a face is sent LEVEL in every mode, by the engine or without it. -/
theorem frameChoice_of_dark {s : State} {i : FaceNo}
    (h : (s.faces.get i).dyn.state = .cutoff ∨
      (s.faces.get i).dyn.state = .active ∧ (s.claims.get i).map Claim.mode = some .blank) :
    s.frameChoice i = .engine ∨ s.frameChoice i = .dark := by
  unfold State.frameChoice
  rcases h with hcutoff | ⟨hactive, hblank⟩
  · rw [hcutoff]
    dsimp only
    split
    · exact .inl rfl
    · exact .inr rfl
  · rw [hactive, (blankClaimed_eq_true s i).mpr hblank]
    dsimp only
    split
    · exact .inl rfl
    · exact .inr rfl

theorem slotStart_of_darkFace {s : State} {i : FaceNo} (hf : 0 < (s.faces.get i).config.fullScale)
    (h : (s.faces.get i).dyn.state = .cutoff ∨
      (s.faces.get i).dyn.state = .active ∧ (s.claims.get i).map Claim.mode = some .blank) (served todo : List FaceNo) :
    ∃ step, s.slotStart served i todo = s.levelStarted served i todo 0 0 step := by
  rcases frameChoice_of_dark h with hengine | hdark
  · have hlevel := levelFor_of_dark (h.imp_right And.right)
    have hcode : s.codeFor i = 0 := by unfold State.codeFor; rw [hlevel]; exact driveCode_zero hf _
    have hstart := slotStart_of_engine hengine served todo
    rw [hlevel, hcode] at hstart
    exact ⟨_, hstart⟩
  · exact ⟨_, slotStart_of_dark hdark served todo⟩

/-- Settles O47: the engine gives such a face level 0, whose code is 0; where the engine does not run the face is kept dark. -/
theorem darkFaces : Obligations.DarkFaces := by
  unfold Obligations.DarkFaces
  intro s served i todo hf _ h
  obtain ⟨step, hstart⟩ := slotStart_of_darkFace hf h served todo
  rw [hstart]
  refine ⟨_, _, _, rfl, rfl, rfl, rfl, ?_⟩
  simp [State.levelStarted]

end Sys2Proof.Machine
end

section
/-! The levels under every step (O57). `FaceLevels` is what `LevelInv` says of one face, `SlotLevels` what it says of the slot in hand: the
operations on a face's dynamic part keep the first, and a slot start establishes the second. Every other command leaves both alone. -/

namespace Sys2Proof.Machine

/-! ### One face's levels -/

/-- What `LevelInv` says of one face's dynamic part (R71, R73, R78, R119, R69). -/
abbrev FaceLevels (d : FaceDynamic) : Prop :=
  (d.commanded ≠ none ↔ d.state = .active ∨ d.state = .cutoff) ∧ (∀ v ∈ d.commanded, v ≤ 10000) ∧
    (∀ v ∈ d.delivered, v ≤ 10000) ∧ d.patternStep ≤ 7

/-- R78: a face that is neither ACTIVE nor in CUTOFF has no levels after a reset or after going OFFLINE. -/
theorem faceLevels_cleared {x : FaceState} (h : ¬(x = .active ∨ x = .cutoff)) : FaceLevels (FaceDynamic.cleared x) :=
  ⟨iff_of_false (fun hn => hn rfl) h, fun _ => nofun, fun _ => nofun, Nat.zero_le 7⟩

/-- A commanded level written where one belongs. -/
theorem FaceLevels.command {d : FaceDynamic} (h : FaceLevels d) (hs : d.state = .active ∨ d.state = .cutoff) {v : Nat}
    (hv : v ≤ 10000) : FaceLevels { d with commanded := some v } := by
  obtain ⟨_, _, hdelivered, hstep⟩ := h
  exact ⟨iff_of_true (Option.some_ne_none v) hs, by rintro _ ⟨⟩; exact hv, hdelivered, hstep⟩

theorem FaceLevels.withStep {d : FaceDynamic} (h : FaceLevels d) {n : Nat} (hn : n ≤ 7) :
    FaceLevels { d with patternStep := n } := by
  obtain ⟨hpresent, hcommanded, hdelivered, _⟩ := h
  exact ⟨hpresent, hcommanded, hdelivered, hn⟩

theorem FaceLevels.withDelivered {d : FaceDynamic} (h : FaceLevels d) {o : Option Nat} (ho : ∀ v ∈ o, v ≤ 10000) :
    FaceLevels { d with delivered := o } := by
  obtain ⟨hpresent, hcommanded, _, hstep⟩ := h
  exact ⟨hpresent, hcommanded, ho, hstep⟩

/-- A change of state between ACTIVE and CUTOFF keeps the level, one between OFFLINE and JOINING its absence. -/
theorem FaceLevels.withState {d : FaceDynamic} (h : FaceLevels d) {x : FaceState}
    (hx : x = .active ∨ x = .cutoff ↔ d.state = .active ∨ d.state = .cutoff) : FaceLevels { d with state := x } := by
  obtain ⟨hpresent, hrest⟩ := h
  exact ⟨hpresent.trans hx.symm, hrest⟩

theorem reverseConvert_le (c : ShownCode) (fullScale : Nat) : reverseConvert c fullScale ≤ 10000 := Nat.min_le_left _ _

/-- R77: a level taken up from the last shown code is in range. -/
theorem FaceLevels.takeUp {d : FaceDynamic} (h : FaceLevels d) (hs : d.state = .active ∨ d.state = .cutoff) (fullScale : Nat) :
    FaceLevels (takeUp fullScale d) := by
  unfold Machine.takeUp
  split
  · exact h.command hs (reverseConvert_le _ _)
  · exact h

theorem FaceLevels.conditioned {f : Face} (h : FaceLevels f.dyn) (c : Conditioning) : FaceLevels (f.conditioned c).dyn := by
  unfold Face.conditioned
  dsimp only
  split
  · exact h.withStep (Nat.zero_le 7)
  · exact h

/-- R69: the pattern step stays below 8. -/
theorem nextStep_le (g : Goal) {step : Nat} (h : step ≤ 7) : nextStep g step ≤ 7 := by
  unfold nextStep
  split <;> omega

/-! ### The Fault Monitor's work on a face's levels -/

/-- R105, steps 1 and 2, leave the levels alone. -/
theorem FaceLevels.applyObservations {d : FaceDynamic} (h : FaceLevels d) (persist : Table Persistence 8) (r : SlotReport) :
    FaceLevels (applyObservations persist r d) := by
  have key : ∀ (l : List FaultKind) (e : FaceDynamic), FaceLevels e →
      FaceLevels (l.foldl (fun e k => applyObservation persist (observe r d k) k e) e) := by
    intro l
    induction l with
    | nil => exact fun _ he => he
    | cons k l ih => exact fun _ he => ih _ he
  exact key allKinds d h

/-- R119: the delivered level is the commanded level that the slot start wrote. -/
theorem FaceLevels.deliver {d : FaceDynamic} (h : FaceLevels d) {r : SlotReport} (hr : ∀ v ∈ r.wrote, v ≤ 10000) :
    FaceLevels (deliver r d) := by
  unfold Machine.deliver
  split
  · exact h.withDelivered hr
  · exact h

/-- R93, R96, R97: a join or a restart of an ACTIVE face takes its level up from the shown code; a face in CUTOFF keeps its level. -/
theorem FaceLevels.faceLife {d : FaceDynamic} (h : FaceLevels d) (fullScale : Nat) (r : SlotReport) :
    FaceLevels (faceLife fullScale r d).1 := by
  unfold Machine.faceLife
  split
  · rename_i x _ _
    have hjoined : FaceLevels { Machine.takeUp fullScale (storeIdentity x d) with state := .active } := by
      obtain ⟨_, _, hdelivered, hstep⟩ := h
      exact ⟨iff_of_true (Option.some_ne_none _) (.inl rfl), by rintro _ ⟨⟩; exact reverseConvert_le _ _, hdelivered, hstep⟩
    exact hjoined.withDelivered (fun _ => nofun)
  · rename_i x _ hstate
    have hstored : FaceLevels (storeIdentity x d) := h
    exact (hstored.takeUp (.inl hstate) fullScale).withDelivered (fun _ => nofun)
  · rename_i x _ _
    have hstored : FaceLevels (storeIdentity x d) := h
    exact hstored.withDelivered (fun _ => nofun)
  · exact h
  · exact h
  · exact h

/-! ### The state's levels -/

/-- What `LevelInv` says of the slot in hand. -/
abbrev SlotLevels (slot : Slot) : Prop := ∀ v ∈ slot.wrote, v ≤ 10000

theorem LevelInv.face {s : State} (h : LevelInv s) (i : FaceNo) : FaceLevels (s.faces.get i).dyn := h.1 i

theorem LevelInv.slot {s : State} {c : Cycle} (h : LevelInv s) (hc : s.cycle = some c) : SlotLevels c.slot := h.2 c hc

theorem LevelInv.withCycle {s : State} {c : Cycle} (h : LevelInv s) (hc : SlotLevels c.slot) :
    LevelInv { s with cycle := some c } :=
  ⟨h.face, by rintro _ ⟨⟩; exact hc⟩

theorem LevelInv.withoutCycle {s : State} (h : LevelInv s) : LevelInv { s with cycle := none } := ⟨h.face, fun _ => nofun⟩

theorem LevelInv.setFace {s : State} {i : FaceNo} {f : Face} (h : LevelInv s) (hf : FaceLevels f.dyn) :
    LevelInv (s.setFace i f) := by
  refine ⟨fun j => ?_, h.2⟩
  rw [setFace_faces, Table.get_set]
  split
  · exact hf
  · exact h.face j

theorem LevelInv.setFaceDyn {s : State} {i : FaceNo} {d : FaceDynamic} (h : LevelInv s) (hd : FaceLevels d) :
    LevelInv (s.setFaceDyn i d) := h.setFace hd

theorem LevelInv.setFaceConfig {s : State} (h : LevelInv s) (i : FaceNo) (c : FaceConfig) : LevelInv (s.setFaceConfig i c) :=
  h.setFace (h.face i)

theorem OnlyNotices.levelInv {s t : State} (e : OnlyNotices s t) (h : LevelInv s) : LevelInv t := by
  obtain ⟨_, _, _, rfl⟩ := e; exact h

theorem OnlyScan.levelInv {s t : State} (e : OnlyScan s t) (h : LevelInv s) : LevelInv t := by
  obtain ⟨_, _, _, _, _, _, _, rfl⟩ := e; exact h

theorem LevelInv.post {s : State} (h : LevelInv s) (b : NoticeBody) : LevelInv (s.post b) := (post_only s b).levelInv h

theorem LevelInv.setPort {s : State} (h : LevelInv s) (l : Link) (p : Port) : LevelInv (s.setPort l p) := by
  cases l <;> exact h

theorem LevelInv.enterCutoff {s : State} {i : FaceNo} (h : LevelInv s) (ha : (s.faces.get i).dyn.state = .active) :
    LevelInv (s.enterCutoff i) := by
  have hcut : FaceLevels { (s.faces.get i).dyn with state := .cutoff } :=
    (h.face i).withState (iff_of_true (.inr rfl) (.inl ha))
  unfold State.enterCutoff
  refine LevelInv.post ?_ _
  exact h.setFaceDyn (i := i) hcut

theorem LevelInv.goOffline {s : State} (h : LevelInv s) (i : FaceNo) : LevelInv (s.goOffline i) :=
  h.setFaceDyn (faceLevels_cleared (by decide))

/-! ### Slot starts and cycle starts -/

/-- Only an ACTIVE face or one in CUTOFF is sent LEVEL, and so has its commanded level written. -/
theorem state_of_frameChoice {s : State} {i : FaceNo} (h : s.frameChoice i = .engine ∨ s.frameChoice i = .dark) :
    (s.faces.get i).dyn.state = .active ∨ (s.faces.get i).dyn.state = .cutoff := by
  unfold State.frameChoice at h
  cases hstate : (s.faces.get i).dyn.state with
  | offline => simp [hstate] at h
  | joining => simp [hstate] at h
  | active => exact .inl rfl
  | cutoff => exact .inr rfl

theorem LevelInv.levelFor_le {s : State} (h : LevelInv s) (i : FaceNo) : s.levelFor i ≤ 10000 := by
  obtain ⟨_, _, _, hstep⟩ := h.face i
  exact (levelFor_le_capFor hstep).trans (capFor_le s i)

theorem LevelInv.levelStarted {s : State} {i : FaceNo} {wrote step : Nat} (h : LevelInv s)
    (hs : (s.faces.get i).dyn.state = .active ∨ (s.faces.get i).dyn.state = .cutoff) (hw : wrote ≤ 10000) (hstep : step ≤ 7)
    (served todo : List FaceNo) (code : Nat) : LevelInv (s.levelStarted served i todo code wrote step) := by
  have hface : FaceLevels { (s.faces.get i).dyn with commanded := some wrote, patternStep := step } :=
    ((h.face i).command hs hw).withStep hstep
  exact (h.setFaceDyn (i := i) hface).withCycle (by rintro _ ⟨⟩; exact hw)

theorem LevelInv.slotStart {s : State} (h : LevelInv s) (served : List FaceNo) (i : FaceNo) (todo : List FaceNo) :
    LevelInv (s.slotStart served i todo) := by
  obtain ⟨_, _, _, hstep⟩ := h.face i
  cases hchoice : s.frameChoice i with
  | ident => rw [slotStart_of_ident hchoice]; exact h.withCycle (fun _ => nofun)
  | hold => rw [slotStart_of_hold hchoice]; exact h.withCycle (fun _ => nofun)
  | dark =>
    rw [slotStart_of_dark hchoice]
    exact h.levelStarted (state_of_frameChoice (.inr hchoice)) (Nat.zero_le _) hstep _ _ _
  | engine =>
    rw [slotStart_of_engine hchoice]
    exact h.levelStarted (state_of_frameChoice (.inl hchoice)) (h.levelFor_le i) (nextStep_le (s.goalFor i) hstep) _ _ _

theorem LevelInv.changeMode {s : State} (h : LevelInv s) (m : Mode) : LevelInv (s.changeMode m) :=
  (changeMode_only s m).levelInv h

theorem LevelInv.completeHalt {s : State} (h : LevelInv s) : LevelInv s.completeHalt := (completeHalt_spec s).levelInv h

theorem LevelInv.latchFace {s : State} (h : LevelInv s) (i : FaceNo) : LevelInv (State.latchFace i s) := by
  unfold State.latchFace
  dsimp only
  split
  · split
    · split
      · rename_i hoffline
        exact (h.setFaceDyn ((h.face i).withState (by rw [hoffline]; decide))).post _
      · exact h
    · split
      · exact h
      · exact h.goOffline i
  · exact h

theorem LevelInv.latchCycle {s : State} (h : LevelInv s) : LevelInv s.latchCycle := by
  unfold State.latchCycle State.latchEnables
  exact eachFace_keeps (P := LevelInv) (fun i _ ht => ht.latchFace i) _ h

theorem LevelInv.cycleStart {s : State} (h : LevelInv s) : LevelInv s.cycleStart := by
  have hlatched := h.latchCycle
  unfold State.cycleStart State.beginCycle
  split
  · split
    · exact hlatched.withoutCycle.completeHalt
    · exact hlatched.withoutCycle
  · exact hlatched.slotStart _ _ _

/-! ### Slot ends -/

theorem LevelInv.cycleEnd {s : State} (h : LevelInv s) : LevelInv s.cycleEnd := by
  have hended : LevelInv { s with cycle := none, overrunWaiting := false } := h.withoutCycle
  unfold State.cycleEnd
  dsimp only
  split
  · exact hended.completeHalt
  · split
    · exact hended.cycleStart
    · exact hended

theorem LevelInv.nextSlot {s : State} (h : LevelInv s) (c : Cycle) : LevelInv (s.nextSlot c) := by
  unfold State.nextSlot
  split
  · exact h.cycleEnd
  · exact h.slotStart _ _ _

theorem LevelInv.monitored {s : State} (h : LevelInv s) {r : SlotReport} (hr : ∀ v ∈ r.wrote, v ≤ 10000) :
    FaceLevels (s.monitored r).1 :=
  (((h.face r.face).applyObservations s.persist r).deliver hr).faceLife _ r

theorem LevelInv.cutoffTest {s : State} (h : LevelInv s) (i : FaceNo) : LevelInv (s.cutoffTest i) := by
  unfold State.cutoffTest
  dsimp only
  split
  · rename_i hhot; exact h.enterCutoff hhot.1
  · exact h

theorem LevelInv.faultMonitor {s : State} (h : LevelInv s) {r : SlotReport} (hr : ∀ v ∈ r.wrote, v ≤ 10000) :
    LevelInv (s.faultMonitor r) := by
  have hstored : LevelInv (s.setFaceDyn r.face (s.monitored r).1) := h.setFaceDyn (h.monitored hr)
  unfold State.faultMonitor State.reportFaults
  refine LevelInv.cutoffTest ?_ r.face
  split
  · split
    · exact hstored.post _
    · exact (hstored.post _).post _
  · split
    · exact hstored
    · exact hstored.post _

theorem LevelInv.countMissed {s : State} (h : LevelInv s) (i : FaceNo) : LevelInv (s.countMissed i) :=
  h.setFaceDyn (h.face i)

theorem LevelInv.countCorrupt {s : State} (h : LevelInv s) (i : FaceNo) : LevelInv (s.countCorrupt i) :=
  h.setFaceDyn (h.face i)

theorem LevelInv.slotEnd {s : State} {c : Cycle} (h : LevelInv s) (hc : SlotLevels c.slot) (reply : Option FaceReply) :
    LevelInv (s.slotEnd c reply) := by
  unfold State.slotEnd
  refine LevelInv.nextSlot (LevelInv.faultMonitor ?_ (r := c.slot.report reply) hc) c
  split
  · exact h.countMissed _
  · exact h

theorem LevelInv.attemptFailed {s : State} {c : Cycle} (h : LevelInv s) (hc : SlotLevels c.slot) (o : AttemptOutcome) :
    LevelInv (s.attemptFailed c o) := by
  have hcounted : LevelInv (if o = .corrupt then s.countCorrupt c.slot.face else s) := by
    split
    · exact h.countCorrupt _
    · exact h
  unfold State.attemptFailed
  dsimp only
  split
  · exact hcounted.withCycle (c := (c.addOutcome o).withAttempt .sending) hc
  · exact hcounted.slotEnd (c := c.addOutcome o) hc none

theorem LevelInv.attemptValid {s : State} {c : Cycle} (h : LevelInv s) (hc : SlotLevels c.slot) (reply : FaceReply) :
    LevelInv (s.attemptValid c reply) := by
  unfold State.attemptValid
  exact LevelInv.slotEnd (c := c.addOutcome .valid) h hc (some reply)

theorem LevelInv.withAttempt {s : State} {c : Cycle} (h : LevelInv s) (hc : SlotLevels c.slot) (a : Attempt) :
    LevelInv { s with cycle := some (c.withAttempt a) } := h.withCycle (c := c.withAttempt a) hc

theorem LevelInv.takeWait {s : State} {c : Cycle} (h : LevelInv s) (hc : SlotLevels c.slot) (w n : Nat) (e : Bool) :
    LevelInv (s.takeWait c w n e) := by
  unfold State.takeWait
  split
  · split
    · exact h.withAttempt hc _
    · exact h.attemptFailed hc _
  · split
    · exact h.attemptFailed hc _
    · exact h.withAttempt hc _

theorem LevelInv.replyByte {s : State} {c : Cycle} (h : LevelInv s) (hc : SlotLevels c.slot) (w n : Nat) (e : Bool)
    (bytes : List Byte) : LevelInv (s.replyByte c w n e bytes) := by
  unfold State.replyByte
  split
  · exact h.withAttempt hc _
  · exact h.attemptFailed hc _
  · split
    · exact h.attemptValid hc _
    · exact h.takeWait hc w n e
    · exact h.attemptFailed hc _

/-! ### Requests -/

theorem LevelInv.leaveHold {s : State} (h : LevelInv s) : LevelInv s.leaveHold := by
  unfold State.leaveHold
  refine eachFace_keeps (P := LevelInv) (fun i t ht => ?_) s h
  unfold State.leaveHoldFace
  dsimp only
  split
  · rename_i hhot
    refine (ht.setFaceDyn ((ht.face i).command (.inl hhot.1) (Nat.zero_le _))).enterCutoff ?_
    simp [hhot.1]
  · exact ht

theorem LevelInv.takeHalt {s : State} (h : LevelInv s) : LevelInv s.takeHalt := by
  have hleft : LevelInv (if s.mode = .hold then s.leaveHold else s) := by
    split
    · exact h.leaveHold
    · exact h
  have hclose : ∀ u, LevelInv u → LevelInv (if u.cycle.isNone then u.completeHalt else u) := by
    intro u hu
    split
    · exact hu.completeHalt
    · exact hu
  unfold State.takeHalt
  split
  · exact h
  · exact h
  · exact hclose _ (hleft.changeMode .halting)
  · exact hclose _ (hleft.changeMode .halting)

theorem LevelInv.takeRun {s : State} (h : LevelInv s) : LevelInv s.takeRun := by
  unfold State.takeRun
  split
  · exact (h.changeMode .running).cycleStart
  · exact h.changeMode .running
  · exact h
  · exact h

theorem LevelInv.takeUpFace {s : State} (h : LevelInv s) (i : FaceNo) : LevelInv (State.takeUpFace i s) := by
  unfold State.takeUpFace
  dsimp only
  split
  · rename_i hactive; exact h.setFaceDyn ((h.face i).takeUp (.inl hactive) _)
  · exact h

theorem LevelInv.takeResume {s : State} (h : LevelInv s) : LevelInv s.takeResume := by
  unfold State.takeResume
  exact (eachFace_keeps (P := LevelInv) (fun i _ ht => ht.takeUpFace i) _ h.leaveHold).changeMode .running

theorem LevelInv.losePlace {s : State} (h : LevelInv s) (n : Span) (i : FaceNo) : LevelInv (State.losePlace n i s) := by
  unfold State.losePlace
  split
  · exact h
  · exact (h.setFaceConfig i _).goOffline i

theorem LevelInv.changeSpan {s : State} (h : LevelInv s) (n : Span) : LevelInv (s.changeSpan n) := by
  have hplaces : LevelInv (if n.size < s.span.size then s.eachFace (State.losePlace n) else s) := by
    split
    · exact eachFace_keeps (P := LevelInv) (fun i _ ht => ht.losePlace n i) s h
    · exact h
  exact hplaces

theorem LevelInv.setEnabled {s : State} (h : LevelInv s) (members : FaceSet) (flag : Bool) (i : FaceNo) :
    LevelInv (State.setEnabled members flag i s) := by
  unfold State.setEnabled
  split
  · exact h.setFaceConfig i _
  · exact h

theorem LevelInv.conditionFace {s : State} (h : LevelInv s) (members : FaceSet) (c : Conditioning) (i : FaceNo) :
    LevelInv (State.conditionFace members c i s) := by
  unfold State.conditionFace
  split
  · exact h.setFace ((h.face i).conditioned c)
  · exact h

theorem LevelInv.restoreFace {s : State} {i : FaceNo} (h : LevelInv s) (hs : (s.faces.get i).dyn.state = .cutoff) :
    LevelInv (s.restoreFace i) := by
  have hrestored : FaceLevels { (s.faces.get i).dyn with state := .active, commanded := some 0 } :=
    ((h.face i).withState (x := .active) (iff_of_true (.inl rfl) (.inr hs))).command (.inl rfl) (Nat.zero_le _)
  exact (h.setFaceDyn hrestored).post _

theorem LevelInv.takeSnapshot {s : State} (h : LevelInv s) : LevelInv s.takeSnapshot := by
  refine ⟨fun i => ?_, h.2⟩
  simp only [State.takeSnapshot, Table.get_map]
  exact h.face i

theorem LevelInv.setClaim {s : State} (h : LevelInv s) (i : FaceNo) (c : Option Claim) : LevelInv (s.setClaim i c) := h

theorem LevelInv.claimFace {s : State} (h : LevelInv s) (members : FaceSet) (c : Claim) (i : FaceNo) :
    LevelInv (State.claimFace members c i s) := by
  unfold State.claimFace
  split
  · split
    · exact h.setClaim i _
    · exact (h.setClaim i _).post _
  · exact h

theorem LevelInv.releaseFace {s : State} (h : LevelInv s) (members : FaceSet) (i : FaceNo) :
    LevelInv (State.releaseFace members i s) := by
  unfold State.releaseFace
  split
  · exact (h.setClaim i none).post _
  · exact h

theorem LevelInv.setAutosnap {s : State} (h : LevelInv s) (on : Bool) : LevelInv (s.setAutosnap on) := by
  unfold State.setAutosnap; split <;> exact h

theorem LevelInv.requestEffect {s t : State} (h : LevelInv s) (e : RequestEffect s t) : LevelInv t := by
  cases e with
  | nothing => exact h
  | halt => exact h.takeHalt
  | run _ => exact h.takeRun
  | resume _ => exact h.takeResume
  | span n _ _ => exact h.changeSpan n
  | face i f => exact h.setFaceConfig i _
  | enabled members flag => exact eachFace_keeps (P := LevelInv) (fun i _ ht => ht.setEnabled members flag i) s h
  | condition members c _ => exact eachFace_keeps (P := LevelInv) (fun i _ ht => ht.conditionFace members c i) s h
  | restore i hs _ => exact h.restoreFace hs
  | snapshot => exact h.takeSnapshot
  | autosnap on => exact h.setAutosnap on
  | claim set mode hold _ => exact eachFace_keeps (P := LevelInv) (fun i _ ht => ht.claimFace _ _ i) s h
  | release members => exact eachFace_keeps (P := LevelInv) (fun i _ ht => ht.releaseFace members i) s h
  | dayClock | curfew | scanPeriod | zone | period | retries | curve | persist | fetch | changes | holdoff | collect => exact h

/-! ### The link ports, for every property that the requests' effects keep -/

section LinkPorts

variable {P : State → Prop} (hport : ∀ s l p, P s → P (s.setPort l p)) (heffect : ∀ s t, RequestEffect s t → P s → P t)
include hport

theorem setReceiver_discardFrame_keeps {s : State} (h : P s) (l : Link) (r : Receiver) : P ((s.setReceiver l r).discardFrame l) :=
  hport _ _ _ (hport _ _ _ h)

theorem linkFrameTimeout_keeps {s t : State} {l : Link} (h : P s) (e : exec (.linkFrameTimeout l) s = .next t) : P t := by
  cases e
  split
  · exact h
  · exact setReceiver_discardFrame_keeps hport h l .waiting

include heffect

theorem takeRequest_keeps_of_effect {s : State} (h : P s) (l : Link) (k tag : Byte) {j : State → Answer × State}
    (hj : RequestEffect s (j s).2) : P (s.takeRequest l k tag j) :=
  takeRequest_keeps (fun _ => heffect s _ hj h) (fun _ => hport _ _ _ h) (fun u _ _ hu => hport u _ _ hu) h

theorem request_keeps {i : Instr} {r : Request} {s t : State} (hi : i.request = some r) (h : P s)
    (e : exec i s = .next t) : P t := by
  rw [exec_request hi] at e
  cases e
  exact takeRequest_keeps_of_effect hport heffect h _ _ _ (judgeKind_effect r.kind r.payload s)

theorem frameComplete_keeps {s : State} (h : P s) (l : Link) (bytes : List Byte) : P (s.frameComplete l bytes) := by
  unfold State.frameComplete
  dsimp only
  split
  · split
    · exact takeRequest_keeps_of_effect hport heffect (hport _ _ _ h) l _ _ (judgeFrame_effect l _ _ _)
    · exact setReceiver_discardFrame_keeps hport h l .waiting
  · exact setReceiver_discardFrame_keeps hport h l .waiting

theorem frameByte_keeps {s : State} (h : P s) (l : Link) (taken : List Byte) (b : Byte) : P (s.frameByte l taken b) := by
  unfold State.frameByte
  split
  · split
    · exact setReceiver_discardFrame_keeps hport h l .waiting
    · exact hport _ _ _ h
  · split
    · exact hport _ _ _ h
    · exact frameComplete_keeps hport heffect h l _

theorem linkByteReceived_keeps {s t : State} {l : Link} {b : Byte} {fe : Bool} (h : P s)
    (e : exec (.linkByteReceived l b fe) s = .next t) : P t := by
  cases e
  split
  · exact h
  · split
    · split
      · exact hport _ _ _ h
      · exact h
    · split
      · exact setReceiver_discardFrame_keeps hport h l .waiting
      · exact frameByte_keeps hport heffect h l _ b

end LinkPorts

/-! ### Resets -/

/-- R78, R87: a reset leaves every face OFFLINE or JOINING, without levels, and no cycle in progress. -/
theorem clearKnowledge_levelInv (s : State) : LevelInv s.clearKnowledge := by
  refine ⟨fun i => ?_, fun _ => nofun⟩
  show FaceLevels ((s.faces.map Face.afterReset).get i).dyn
  rw [Table.get_map]
  exact faceLevels_cleared (by split <;> decide)

theorem beginReset_levelInv (s : State) (cause : ResetCause) : LevelInv (s.beginReset cause) := clearKnowledge_levelInv _

theorem finishReset_levelInv (s : State) (cause : ResetCause) (straps : Straps) : LevelInv (s.finishReset cause straps) := by
  unfold State.finishReset
  dsimp only
  refine LevelInv.cycleStart (LevelInv.post ?_ _)
  exact clearKnowledge_levelInv (if cause.cold then s.coldConfiguration (strapWidth straps) else s)

theorem LevelInv.tryFinish {s : State} (h : LevelInv s) (straps : Straps) : LevelInv (s.tryFinish straps) := by
  unfold State.tryFinish
  split
  · split
    · exact finishReset_levelInv s _ straps
    · exact h
  · exact h

theorem replySent_keeps_levels {s t : State} {l : Link} {straps : Straps} (h : LevelInv s)
    (e : exec (.replySent l straps) s = .next t) : LevelInv t := by
  cases e
  split
  · dsimp only
    split
    · exact (beginReset_levelInv _ _).tryFinish straps
    · exact h.setPort l _
  · exact h

theorem resetPinLow_keeps_levels {s t : State} (h : LevelInv s) (e : exec .resetPinLow s = .next t) : LevelInv t := by
  cases e
  split
  · exact h
  · exact beginReset_levelInv _ _

theorem supplyDip_keeps_levels {s t : State} (h : LevelInv s) (e : exec .supplyDip s = .next t) : LevelInv t := by
  cases e
  split
  · exact beginReset_levelInv _ _
  · exact h

theorem supplyOff_keeps_levels {s t : State} (e : exec .supplyOff s = .next t) : LevelInv t := by
  cases e; exact beginReset_levelInv _ _

theorem resetPinRelease_keeps_levels {s t : State} {straps : Straps} (h : LevelInv s)
    (e : exec (.resetPinRelease straps) s = .next t) : LevelInv t := by
  cases e
  exact LevelInv.tryFinish (s := { s with resetLine := { s.resetLine with pinLow := false } }) h straps

theorem supplyRecovery_keeps_levels {s t : State} {straps : Straps} (h : LevelInv s)
    (e : exec (.supplyRecovery straps) s = .next t) : LevelInv t := by
  cases e
  exact LevelInv.tryFinish (s := { s with resetLine := { s.resetLine with supply := .working } }) h straps

/-! ### The chain's events -/

theorem cycleTimerExpiry_keeps_levels {s t : State} (h : LevelInv s) (e : exec .cycleTimerExpiry s = .next t) : LevelInv t := by
  cases e
  split
  · exact h
  · split
    · exact LevelInv.post (s := { s with overruns := _, overrunWaiting := true, cycleTimer := none }) h _
    · split
      · exact h
      · exact h.cycleStart

theorem chainFrameSent_keeps_levels {s t : State} (h : LevelInv s) (e : exec .chainFrameSent s = .next t) : LevelInv t := by
  cases e
  split
  · rename_i c hc
    split
    · exact h.withAttempt (h.slot hc) _
    · exact h
  · exact h

theorem replyWindowExpiry_keeps_levels {s t : State} (h : LevelInv s) (e : exec .replyWindowExpiry s = .next t) :
    LevelInv t := by
  cases e
  split
  · rename_i c hc
    split
    · exact h.attemptFailed (h.slot hc) _
    · exact h.withAttempt (h.slot hc) _
    · exact h
  · exact h

theorem chainByteReceived_keeps_levels {s t : State} {b : Byte} (h : LevelInv s)
    (e : exec (.chainByteReceived b) s = .next t) : LevelInv t := by
  cases e
  split
  · rename_i c hc
    split
    · exact h
    · split
      · exact h.withAttempt (h.slot hc) _
      · exact h
    · exact h.replyByte (h.slot hc) _ _ _ _
  · exact h

theorem chainReplyGapTimeout_keeps_levels {s t : State} (h : LevelInv s) (e : exec .chainReplyGapTimeout s = .next t) :
    LevelInv t := by
  cases e
  split
  · rename_i c hc
    split
    · exact h.attemptFailed (h.slot hc) _
    · exact h
    · exact h
  · exact h

/-! ### Scans and seconds -/

theorem scanTimerExpiry_keeps_levels {s t : State} (h : LevelInv s) (e : exec .scanTimerExpiry s = .next t) : LevelInv t := by
  cases e
  split
  · exact h
  · exact (startScan_only _).levelInv (s := { s with scanTimer := some s.scanPeriod }) h

theorem sensorPollEnd_keeps_levels {s t : State} {r : PollEnd} (h : LevelInv s) (e : exec (.sensorPollEnd r) s = .next t) :
    LevelInv t := by
  cases e
  split
  · split
    · exact (endPoll_only s _ _ _).levelInv h
    · exact (endPoll_only s _ _ _).levelInv h
  · exact h

theorem sensorPollTimeout_keeps_levels {s t : State} (h : LevelInv s) (e : exec .sensorPollTimeout s = .next t) :
    LevelInv t := by
  cases e
  split
  · exact (endPoll_only s _ _ _).levelInv h
  · exact h

theorem LevelInv.lapseClaim {s : State} (h : LevelInv s) (i : FaceNo) : LevelInv (s.lapseClaim i) := by
  rw [lapseClaim_eq]
  exact LevelInv.post (s := { s with claims := s.claims.set i none, lapsed := faceInsert s.lapsed i }) h _

theorem LevelInv.claimsSecond {s : State} (h : LevelInv s) : LevelInv s.claimsSecond := by
  rw [claimsSecond_eq]
  exact (postAll_only _ _).levelInv
    (s := { s with claims := s.claims.map (fun c => c.bind Claim.second), lapsed := s.lapsed ||| faceSetOf s.lapsing }) h

theorem LevelInv.autoSnapshotNow {s : State} (h : LevelInv s) : LevelInv s.autoSnapshotNow :=
  (LevelInv.takeSnapshot (s := { s with autoCount := 0 }) h).post .snapshot

theorem LevelInv.bankSecond {s : State} (h : LevelInv s) : LevelInv s.bankSecond := by
  unfold State.bankSecond
  split
  · split
    · exact h.autoSnapshotNow
    · exact h
  · exact h

theorem LevelInv.claimsAndBankSecond {s : State} (h : LevelInv s) : LevelInv s.claimsAndBankSecond := by
  unfold State.claimsAndBankSecond
  split
  · have hchoice : LevelInv { s with freeChoices := s.freeChoices + 1 } := h
    dsimp only
    split
    · exact hchoice.bankSecond.claimsSecond
    · exact hchoice.claimsSecond.bankSecond
  · exact h.claimsSecond.bankSecond

theorem oneSecondEvent_keeps_levels {s t : State} (h : LevelInv s) (e : exec .oneSecondEvent s = .next t) : LevelInv t := by
  cases e
  split
  · exact h
  · exact LevelInv.claimsAndBankSecond
      (s := { s with seconds := s.seconds + 1#16, dayClock := s.dayClock.map nextSecondOfDay }) h

theorem claimLapse_keeps_levels {s t : State} {i : FaceNo} (h : LevelInv s) (e : exec (.claimLapse i) s = .next t) :
    LevelInv t := by
  cases e
  split
  · split
    · exact h.lapseClaim i
    · exact h
  · exact h

theorem autoSnapshot_keeps_levels {s t : State} (h : LevelInv s) (e : exec .autoSnapshot s = .next t) : LevelInv t := by
  cases e
  split
  · exact h.autoSnapshotNow
  · exact h

theorem holdoffExpiry_keeps_levels {s t : State} (h : LevelInv s) (e : exec .holdoffExpiry s = .next t) : LevelInv t := by
  cases e
  split <;> exact h

/-! ### Every command, every step -/

theorem exec_keeps_levels (i : Instr) (s t : State) (h : LevelInv s) (e : exec i s = .next t) : LevelInv t := by
  have hport : ∀ u l p, LevelInv u → LevelInv (u.setPort l p) := fun _ l p hu => hu.setPort l p
  have heffect : ∀ u v, RequestEffect u v → LevelInv u → LevelInv v := fun _ _ he hu => hu.requestEffect he
  cases i
  case linkByteReceived => exact linkByteReceived_keeps hport heffect h e
  case linkFrameTimeout => exact linkFrameTimeout_keeps hport h e
  case replySent => exact replySent_keeps_levels h e
  case cycleTimerExpiry => exact cycleTimerExpiry_keeps_levels h e
  case chainFrameSent => exact chainFrameSent_keeps_levels h e
  case replyWindowExpiry => exact replyWindowExpiry_keeps_levels h e
  case chainByteReceived => exact chainByteReceived_keeps_levels h e
  case chainReplyGapTimeout => exact chainReplyGapTimeout_keeps_levels h e
  case scanTimerExpiry => exact scanTimerExpiry_keeps_levels h e
  case sensorPollEnd => exact sensorPollEnd_keeps_levels h e
  case sensorPollTimeout => exact sensorPollTimeout_keeps_levels h e
  case oneSecondEvent => exact oneSecondEvent_keeps_levels h e
  case claimLapse => exact claimLapse_keeps_levels h e
  case autoSnapshot => exact autoSnapshot_keeps_levels h e
  case holdoffExpiry => exact holdoffExpiry_keeps_levels h e
  case resetPinLow => exact resetPinLow_keeps_levels h e
  case resetPinRelease => exact resetPinRelease_keeps_levels h e
  case supplyDip => exact supplyDip_keeps_levels h e
  case supplyOff => exact supplyOff_keeps_levels e
  case supplyRecovery => exact supplyRecovery_keeps_levels h e
  all_goals exact request_keeps hport heffect rfl h e

/-- Settles O57: every command keeps the levels' invariant, which does not read the queue of commands. -/
theorem stepKeepsLevels : Obligations.StepKeepsLevels := by
  unfold Obligations.StepKeepsLevels
  intro s t h e
  exact step_keeps (P := LevelInv) (fun _ _ hs => hs) exec_keeps_levels h e

end Sys2Proof.Machine
end

section
/-! CUTOFF and OVERBRIGHT under every step (O56). `FaceCutoffs` is what `CutoffInv` says of one face in a given mode; the Fault Monitor's
last step and the leaving of HOLD are where an ACTIVE face with OVERBRIGHT asserted must go. Most commands leave every face's state and
asserted set alone. -/

namespace Sys2Proof.Machine

/-! ### One face -/

/-- R112: a face that is not yet ACTIVE has nothing asserted but NO_REPLY or BAD_FRAME. -/
abbrev ChainFaultsOnly (d : FaceDynamic) : Prop :=
  d.state = .joining ∨ d.state = .offline → ∀ k ∈ allKinds, k ≠ .noReply → k ≠ .badFrame → kindIn d.asserted k = false

/-- What `CutoffInv` says of one face's dynamic part in mode `m` (R10, R99, R112, R120). -/
abbrev FaceCutoffs (m : Mode) (d : FaceDynamic) : Prop :=
  (m = .hold → d.state ≠ .cutoff) ∧ (m ≠ .hold → d.state = .active → kindIn d.asserted .overbright = false) ∧ ChainFaultsOnly d

/-- R120: a face in CUTOFF is kept dark, whatever is asserted on it. -/
theorem faceCutoffs_of_cutoff {m : Mode} {d : FaceDynamic} (hm : m ≠ .hold) (h : d.state = .cutoff) : FaceCutoffs m d :=
  ⟨fun hhold => absurd hhold hm, fun _ hactive => by simp [h] at hactive, fun hwaiting => by simp [h] at hwaiting⟩

/-- A face that is not yet ACTIVE answers the rule in every mode. -/
theorem faceCutoffs_of_waiting {m : Mode} {d : FaceDynamic} (hs : d.state = .joining ∨ d.state = .offline)
    (h : ChainFaultsOnly d) : FaceCutoffs m d :=
  ⟨fun _ hcutoff => by simp [hcutoff] at hs, fun _ hactive => by simp [hactive] at hs, h⟩

/-- R87: nothing is asserted after a reset or after going OFFLINE. -/
theorem faceCutoffs_cleared (m : Mode) {x : FaceState} (hx : x = .joining ∨ x = .offline) :
    FaceCutoffs m (FaceDynamic.cleared x) :=
  faceCutoffs_of_waiting hx fun _ k _ _ _ => by simp [FaceDynamic.cleared, kindIn]

/-- Outside HOLD the modes ask the same of a face. -/
theorem FaceCutoffs.inMode {m n : Mode} {d : FaceDynamic} (h : FaceCutoffs m d) (hm : m ≠ .hold) (hn : n ≠ .hold) :
    FaceCutoffs n d := by
  obtain ⟨_, hbright, hwaiting⟩ := h
  exact ⟨fun hhold => absurd hhold hn, fun _ => hbright hm, hwaiting⟩

theorem FaceCutoffs.conditioned {m : Mode} {f : Face} (h : FaceCutoffs m f.dyn) (c : Conditioning) :
    FaceCutoffs m (f.conditioned c).dyn := by
  unfold Face.conditioned
  dsimp only
  split <;> exact h

/-! ### The asserted set and the state through the Fault Monitor -/

/-- R113, R114: an observation of a kind, or the want of one, leaves the other kinds as they are. -/
theorem kindIn_applyObservation_of_notObserved {o : Observation} {k l : FaultKind} (h : k = l → o = .notObserved)
    (persist : Table Persistence 8) (d : FaceDynamic) :
    kindIn (applyObservation persist o l d).asserted k = kindIn d.asserted k := by
  unfold applyObservation
  dsimp only
  by_cases hkl : k = l
  · subst hkl
    rw [h rfl, assertedAfter]
    cases hk : kindIn d.asserted k <;> simp [kindIn_insert, kindIn_erase]
  · split <;> simp [kindIn_insert, kindIn_erase, hkl]

theorem kindIn_applyObservations_of_notObserved {r : SlotReport} {d : FaceDynamic} {k : FaultKind}
    (h : observe r d k = .notObserved) (persist : Table Persistence 8) :
    kindIn (applyObservations persist r d).asserted k = kindIn d.asserted k := by
  have key : ∀ (l : List FaultKind) (e : FaceDynamic),
      kindIn (l.foldl (fun e k => applyObservation persist (observe r d k) k e) e).asserted k = kindIn e.asserted k := by
    intro l
    induction l with
    | nil => exact fun _ => rfl
    | cons a l ih =>
      intro e
      rw [List.foldl_cons, ih, kindIn_applyObservation_of_notObserved (fun hka => hka ▸ h)]
  exact key allKinds d

theorem applyObservations_state (persist : Table Persistence 8) (r : SlotReport) (d : FaceDynamic) :
    (applyObservations persist r d).state = d.state := by
  have key : ∀ (l : List FaultKind) (e : FaceDynamic),
      (l.foldl (fun e k => applyObservation persist (observe r d k) k e) e).state = e.state := by
    intro l
    induction l with
    | nil => exact fun _ => rfl
    | cons a l ih => exact fun e => ih _
  exact key allKinds d

/-- R108 to R112: of a face that is not yet ACTIVE only NO_REPLY and BAD_FRAME are observed. -/
theorem observe_of_waiting {d : FaceDynamic} (hs : d.state = .joining ∨ d.state = .offline) (r : SlotReport) {k : FaultKind}
    (hreply : k ≠ .noReply) (hframe : k ≠ .badFrame) : observe r d k = .notObserved := by
  have hjudged : judgedStatus r d = none := by
    unfold judgedStatus
    split
    · rcases hs with hs | hs <;> simp [hs]
    · rfl
  cases k with
  | noReply => exact absurd rfl hreply
  | badFrame => exact absurd rfl hframe
  | echo | strings | thermal | power | overbright | door => simp [observe, hjudged]

theorem ChainFaultsOnly.applyObservations {d : FaceDynamic} (h : ChainFaultsOnly d) (persist : Table Persistence 8)
    (r : SlotReport) : ChainFaultsOnly (applyObservations persist r d) := by
  intro hs k hk hreply hframe
  rw [applyObservations_state] at hs
  rw [kindIn_applyObservations_of_notObserved (observe_of_waiting hs r hreply hframe)]
  exact h hs k hk hreply hframe

theorem deliver_state (r : SlotReport) (d : FaceDynamic) : (deliver r d).state = d.state := by
  unfold deliver; split <;> rfl

theorem deliver_asserted (r : SlotReport) (d : FaceDynamic) : (deliver r d).asserted = d.asserted := by
  unfold deliver; split <;> rfl

theorem takeUp_state (fullScale : Nat) (d : FaceDynamic) : (takeUp fullScale d).state = d.state := by
  unfold takeUp; split <;> rfl

theorem takeUp_asserted (fullScale : Nat) (d : FaceDynamic) : (takeUp fullScale d).asserted = d.asserted := by
  unfold takeUp; split <;> rfl

/-- R93: a slot end changes a face's state by a join only. -/
theorem faceLife_state (fullScale : Nat) (r : SlotReport) (d : FaceDynamic) :
    (faceLife fullScale r d).1.state = d.state ∨ (faceLife fullScale r d).1.state = .active := by
  unfold faceLife
  split
  · exact .inr rfl
  · exact .inl (takeUp_state _ _)
  · exact .inl rfl
  · exact .inl rfl
  · exact .inl rfl
  · exact .inl rfl

theorem faceLife_asserted (fullScale : Nat) (r : SlotReport) (d : FaceDynamic) :
    (faceLife fullScale r d).1.asserted = d.asserted := by
  unfold faceLife
  split
  · exact takeUp_asserted _ _
  · exact takeUp_asserted _ _
  · rfl
  · rfl
  · rfl
  · rfl

theorem monitored_state (s : State) (r : SlotReport) :
    (s.monitored r).1.state = (s.faces.get r.face).dyn.state ∨ (s.monitored r).1.state = .active := by
  have h := faceLife_state (s.faces.get r.face).config.fullScale r
    (deliver r (applyObservations s.persist r (s.faces.get r.face).dyn))
  rwa [deliver_state, applyObservations_state] at h

theorem monitored_asserted (s : State) (r : SlotReport) :
    (s.monitored r).1.asserted = (applyObservations s.persist r (s.faces.get r.face).dyn).asserted :=
  (faceLife_asserted _ _ _).trans (deliver_asserted _ _)

/-- R112, R93: what the Fault Monitor leaves asserted on a face that has still not joined. -/
theorem ChainFaultsOnly.monitored {s : State} {r : SlotReport} (h : ChainFaultsOnly (s.faces.get r.face).dyn) :
    ChainFaultsOnly (s.monitored r).1 := by
  rcases monitored_state s r with hsame | hactive
  · have hobserved := h.applyObservations s.persist r
    unfold ChainFaultsOnly at hobserved ⊢
    rwa [hsame, monitored_asserted, ← applyObservations_state s.persist r]
  · intro hs
    simp [hactive] at hs

/-! ### The state -/

/-- What `CutoffInv` would say of the part's faces in mode `m`. -/
abbrev CutoffsIn (m : Mode) (s : State) : Prop := ∀ i : FaceNo, FaceCutoffs m (s.faces.get i).dyn

theorem CutoffInv.face {s : State} (h : CutoffInv s) (i : FaceNo) : FaceCutoffs s.mode (s.faces.get i).dyn := h i

theorem CutoffInv.inMode {s : State} (h : CutoffInv s) (hs : s.mode ≠ .hold) {m : Mode} (hm : m ≠ .hold) : CutoffsIn m s :=
  fun i => (h.face i).inMode hs hm

theorem CutoffInv.congr {s t : State} (h : CutoffInv s) (hm : t.mode = s.mode) (hf : t.faces = s.faces) : CutoffInv t := by
  intro i
  rw [hm, hf]
  exact h i

theorem OnlyNotices.cutoffInv {s t : State} (e : OnlyNotices s t) (h : CutoffInv s) : CutoffInv t := by
  obtain ⟨_, _, _, rfl⟩ := e; exact h

theorem OnlyScan.cutoffInv {s t : State} (e : OnlyScan s t) (h : CutoffInv s) : CutoffInv t := by
  obtain ⟨_, _, _, _, _, _, _, rfl⟩ := e; exact h

theorem CutoffInv.withCycle {s : State} (h : CutoffInv s) (y : Option Cycle) : CutoffInv { s with cycle := y } := h

theorem CutoffInv.post {s : State} (h : CutoffInv s) (b : NoticeBody) : CutoffInv (s.post b) := (post_only s b).cutoffInv h

theorem CutoffInv.setPort {s : State} (h : CutoffInv s) (l : Link) (p : Port) : CutoffInv (s.setPort l p) :=
  h.congr (setPort_mode s l p) (setPort_faces s l p)

theorem CutoffsIn.setFace {m : Mode} {s : State} {i : FaceNo} {f : Face} (h : CutoffsIn m s) (hf : FaceCutoffs m f.dyn) :
    CutoffsIn m (s.setFace i f) := by
  intro j
  rw [setFace_faces, Table.get_set]
  split
  · exact hf
  · exact h j

theorem CutoffInv.setFaceDyn {s : State} {i : FaceNo} {d : FaceDynamic} (h : CutoffInv s) (hd : FaceCutoffs s.mode d) :
    CutoffInv (s.setFaceDyn i d) := CutoffsIn.setFace (m := s.mode) h hd

theorem CutoffInv.setFaceConfig {s : State} (h : CutoffInv s) (i : FaceNo) (c : FaceConfig) : CutoffInv (s.setFaceConfig i c) :=
  CutoffsIn.setFace (m := s.mode) h (h.face i)

theorem CutoffInv.goOffline {s : State} (h : CutoffInv s) (i : FaceNo) : CutoffInv (s.goOffline i) :=
  h.setFaceDyn (faceCutoffs_cleared s.mode (.inr rfl))

/-! ### Changes of mode -/

@[simp] theorem changeMode_mode (s : State) (m : Mode) : (s.changeMode m).mode = m := by simp [State.changeMode]

theorem CutoffsIn.changeMode {m : Mode} {s : State} (h : CutoffsIn m s) : CutoffInv (s.changeMode m) :=
  (changeMode_only s m).cutoffInv (s := { s with mode := m }) h

theorem CutoffInv.completeHalt {s : State} (h : CutoffInv s) (hm : s.mode ≠ .hold) : CutoffInv s.completeHalt :=
  CutoffsIn.changeMode (s := { s with overrunWaiting := false, cycleTimer := none }) (h.inMode hm (by decide))

/-! ### The entry to CUTOFF (R98 to R100, R120) -/

theorem enterCutoff_mode (s : State) (i : FaceNo) : (s.enterCutoff i).mode = s.mode := by simp [State.enterCutoff]

theorem enterCutoff_faces (s : State) (i : FaceNo) :
    (s.enterCutoff i).faces = s.faces.set i { s.faces.get i with
      dyn := { (s.faces.get i).dyn with
        state := .cutoff, live := { (s.faces.get i).dyn.live with cutoffs := bump 255 (s.faces.get i).dyn.live.cutoffs } } } := by
  simp [State.enterCutoff]

/-- R120: where every other face answers the rule, the cutoff test brings the face it looks at to answer it too. -/
theorem cutoffTest_cutoffInv {s : State} {i : FaceNo} (hothers : ∀ j, j ≠ i → FaceCutoffs s.mode (s.faces.get j).dyn)
    (hhold : s.mode = .hold → (s.faces.get i).dyn.state ≠ .cutoff) (hwaiting : ChainFaultsOnly (s.faces.get i).dyn)
    (hm : s.mode ≠ .halted) : CutoffInv (s.cutoffTest i) := by
  unfold State.cutoffTest
  dsimp only
  split
  · rename_i hhot
    obtain ⟨_, _, hdrives⟩ := hhot
    have hnot : s.mode ≠ .hold := by rcases hdrives with h | h <;> simp [h]
    intro j
    rw [enterCutoff_mode, enterCutoff_faces, Table.get_set]
    split
    · exact faceCutoffs_of_cutoff hnot rfl
    · rename_i hj; exact hothers j hj
  · rename_i hcool
    intro j
    by_cases hj : j = i
    · subst hj
      refine ⟨hhold, fun hnot hactive => ?_, hwaiting⟩
      have hdrives : s.mode = .running ∨ s.mode = .halting := by
        cases hs : s.mode with
        | running => exact .inl rfl
        | halting => exact .inr rfl
        | hold => exact absurd hs hnot
        | halted => exact absurd hs hm
      exact Bool.eq_false_iff.mpr fun hbright => hcool ⟨hactive, hbright, hdrives⟩
    · exact hothers j hj

/-- The record and the notices of a slot end, before the cutoff test (R105, steps 1 to 5). -/
theorem reportFaults_spec (s : State) (i : FaceNo) (before : KindSet) (d : FaceDynamic) (life : Option (FaceState × Bool)) :
    ∃ t : State, s.reportFaults i before d life = t.cutoffTest i ∧ t.mode = s.mode ∧
      t.faces = s.faces.set i { s.faces.get i with dyn := d } := by
  unfold State.reportFaults
  refine ⟨_, rfl, ?_, ?_⟩
  · split <;> split <;> simp
  · split <;> split <;> simp

theorem CutoffInv.faultMonitor {s : State} (h : CutoffInv s) (hm : s.mode ≠ .halted) (r : SlotReport) :
    CutoffInv (s.faultMonitor r) := by
  obtain ⟨hhold, _, hwaiting⟩ := h.face r.face
  unfold State.faultMonitor
  obtain ⟨t, ht, hmode, hfaces⟩ := reportFaults_spec s r.face (s.faces.get r.face).dyn.asserted (s.monitored r).1 (s.monitored r).2
  rw [ht]
  refine cutoffTest_cutoffInv (fun j hj => ?_) ?_ ?_ (hmode ▸ hm)
  · rw [hmode, hfaces, Table.get_set_ne _ hj]; exact h.face j
  · rw [hmode, hfaces, Table.get_set_self]
    intro hs hcutoff
    rcases monitored_state s r with hsame | hactive
    · exact hhold hs (hsame.symm.trans hcutoff)
    · simp [hactive] at hcutoff
  · rw [hfaces, Table.get_set_self]; exact hwaiting.monitored

/-! ### The leaving of HOLD (R99) -/

theorem hot_eq_true (s : State) (i : FaceNo) :
    s.hot i = true ↔ (s.faces.get i).dyn.state = .active ∧ kindIn (s.faces.get i).dyn.asserted .overbright = true := by
  simp [State.hot]

theorem leaveHoldFace_self (i : FaceNo) (s : State) :
    (State.leaveHoldFace i s).faces.get i = if s.hot i then (s.faces.get i).cutOff else s.faces.get i := by
  unfold State.leaveHoldFace
  simp only [← hot_eq_true]
  split
  · simp only [enterCutoff_faces, setFaceDyn_faces, Table.get_set_self]
    rfl
  · rfl

theorem leaveHoldFace_other (i j : FaceNo) (s : State) (h : j ≠ i) :
    (State.leaveHoldFace i s).faces.get j = s.faces.get j := by
  unfold State.leaveHoldFace
  dsimp only
  split
  · simp [enterCutoff_faces, h]
  · rfl

/-- R99: each face's record once the part has left HOLD. -/
theorem leaveHold_face (s : State) (i : FaceNo) :
    s.leaveHold.faces.get i = if s.hot i then (s.faces.get i).cutOff else s.faces.get i :=
  eachFace_read (fun t i => t.faces.get i)
    (fun _ f => if decide (f.dyn.state = .active) && kindIn f.dyn.asserted .overbright then f.cutOff else f)
    leaveHoldFace_self leaveHoldFace_other s i

/-- R99: the faces as the part leaves HOLD answer what every other mode asks of them. -/
theorem CutoffInv.leaveHold {s : State} (h : CutoffInv s) {m : Mode} (hm : m ≠ .hold) : CutoffsIn m s.leaveHold := by
  intro i
  rw [leaveHold_face]
  split
  · exact faceCutoffs_of_cutoff hm rfl
  · rename_i hcool
    obtain ⟨_, _, hwaiting⟩ := h.face i
    exact ⟨fun hhold => absurd hhold hm,
      fun _ hactive => Bool.eq_false_iff.mpr fun hbright => hcool ((hot_eq_true s i).mpr ⟨hactive, hbright⟩), hwaiting⟩

/-! ### Slot starts and cycle starts -/

theorem CutoffInv.levelStarted {s : State} (h : CutoffInv s) (served : List FaceNo) (i : FaceNo) (todo : List FaceNo)
    (code wrote step : Nat) : CutoffInv (s.levelStarted served i todo code wrote step) :=
  h.setFaceDyn (i := i) (d := { (s.faces.get i).dyn with commanded := some wrote, patternStep := step }) (h.face i)

theorem CutoffInv.slotStart {s : State} (h : CutoffInv s) (served : List FaceNo) (i : FaceNo) (todo : List FaceNo) :
    CutoffInv (s.slotStart served i todo) := by
  cases hchoice : s.frameChoice i with
  | ident => rw [slotStart_of_ident hchoice]; exact h
  | hold => rw [slotStart_of_hold hchoice]; exact h
  | dark => rw [slotStart_of_dark hchoice]; exact h.levelStarted _ _ _ _ _ _
  | engine => rw [slotStart_of_engine hchoice]; exact h.levelStarted _ _ _ _ _ _

/-- R92, R102: a face that joins keeps what is asserted on it, one that goes OFFLINE loses it. -/
theorem CutoffInv.latchFace {s : State} (h : CutoffInv s) (i : FaceNo) : CutoffInv (State.latchFace i s) := by
  obtain ⟨_, _, hwaiting⟩ := h.face i
  unfold State.latchFace
  dsimp only
  split
  · split
    · split
      · rename_i hoffline
        have hjoined : FaceCutoffs s.mode { (s.faces.get i).dyn with state := .joining } :=
          faceCutoffs_of_waiting (.inl rfl) fun _ => hwaiting (.inr hoffline)
        exact (h.setFaceDyn hjoined).post _
      · exact h
    · split
      · exact h
      · exact h.goOffline i
  · exact h

theorem CutoffInv.latchCycle {s : State} (h : CutoffInv s) : CutoffInv s.latchCycle := by
  unfold State.latchCycle State.latchEnables
  exact eachFace_keeps (P := CutoffInv) (fun i _ ht => ht.latchFace i) _ h

theorem CutoffInv.cycleStart {s : State} (h : CutoffInv s) : CutoffInv s.cycleStart := by
  have hlatched := h.latchCycle
  unfold State.cycleStart State.beginCycle
  split
  · split
    · rename_i hhalting
      exact (hlatched.withCycle none).completeHalt (by simp [hhalting])
    · exact hlatched.withCycle none
  · exact hlatched.slotStart _ _ _

/-! ### Slot ends -/

theorem CutoffInv.cycleEnd {s : State} (h : CutoffInv s) : CutoffInv s.cycleEnd := by
  have hended : CutoffInv { s with cycle := none, overrunWaiting := false } := h
  unfold State.cycleEnd
  dsimp only
  split
  · rename_i hhalting; exact hended.completeHalt (by simp [hhalting])
  · split
    · exact hended.cycleStart
    · exact hended

theorem CutoffInv.nextSlot {s : State} (h : CutoffInv s) (c : Cycle) : CutoffInv (s.nextSlot c) := by
  unfold State.nextSlot
  split
  · exact h.cycleEnd
  · exact h.slotStart _ _ _

theorem CutoffInv.countMissed {s : State} (h : CutoffInv s) (i : FaceNo) : CutoffInv (s.countMissed i) :=
  h.setFaceDyn (h.face i)

theorem CutoffInv.countCorrupt {s : State} (h : CutoffInv s) (i : FaceNo) : CutoffInv (s.countCorrupt i) :=
  h.setFaceDyn (h.face i)

theorem CutoffInv.slotEnd {s : State} (h : CutoffInv s) (hm : s.mode ≠ .halted) (c : Cycle) (reply : Option FaceReply) :
    CutoffInv (s.slotEnd c reply) := by
  obtain ⟨hcounted, hmode⟩ : CutoffInv (if reply.isNone then s.countMissed c.slot.face else s) ∧
      (if reply.isNone then s.countMissed c.slot.face else s).mode ≠ .halted := by
    split
    · exact ⟨h.countMissed _, hm⟩
    · exact ⟨h, hm⟩
  unfold State.slotEnd
  exact (hcounted.faultMonitor hmode _).nextSlot c

theorem CutoffInv.attemptFailed {s : State} (h : CutoffInv s) (hm : s.mode ≠ .halted) (c : Cycle) (o : AttemptOutcome) :
    CutoffInv (s.attemptFailed c o) := by
  obtain ⟨hcounted, hmode⟩ : CutoffInv (if o = .corrupt then s.countCorrupt c.slot.face else s) ∧
      (if o = .corrupt then s.countCorrupt c.slot.face else s).mode ≠ .halted := by
    split
    · exact ⟨h.countCorrupt _, hm⟩
    · exact ⟨h, hm⟩
  unfold State.attemptFailed
  dsimp only
  split
  · exact hcounted
  · exact hcounted.slotEnd hmode _ none

theorem CutoffInv.attemptValid {s : State} (h : CutoffInv s) (hm : s.mode ≠ .halted) (c : Cycle) (reply : FaceReply) :
    CutoffInv (s.attemptValid c reply) := by
  unfold State.attemptValid
  exact h.slotEnd hm _ _

theorem CutoffInv.takeWait {s : State} (h : CutoffInv s) (hm : s.mode ≠ .halted) (c : Cycle) (w n : Nat) (e : Bool) :
    CutoffInv (s.takeWait c w n e) := by
  unfold State.takeWait
  split
  · split
    · exact h
    · exact h.attemptFailed hm c _
  · split
    · exact h.attemptFailed hm c _
    · exact h

theorem CutoffInv.replyByte {s : State} (h : CutoffInv s) (hm : s.mode ≠ .halted) (c : Cycle) (w n : Nat) (e : Bool)
    (bytes : List Byte) : CutoffInv (s.replyByte c w n e bytes) := by
  unfold State.replyByte
  split
  · exact h
  · exact h.attemptFailed hm c _
  · split
    · exact h.attemptValid hm c _
    · exact h.takeWait hm c w n e
    · exact h.attemptFailed hm c _

/-! ### Requests -/

theorem CutoffInv.takeHalt {s : State} (h : CutoffInv s) : CutoffInv s.takeHalt := by
  have hleft : CutoffsIn .halting (if s.mode = .hold then s.leaveHold else s) := by
    split
    · exact h.leaveHold (by decide)
    · rename_i hs; exact h.inMode hs (by decide)
  have hclose : ∀ u : State, CutoffsIn .halting u →
      CutoffInv (if (u.changeMode .halting).cycle.isNone then (u.changeMode .halting).completeHalt else u.changeMode .halting) := by
    intro u hu
    split
    · exact hu.changeMode.completeHalt (by simp)
    · exact hu.changeMode
  unfold State.takeHalt
  split
  · exact h
  · exact h
  · exact hclose _ hleft
  · exact hclose _ hleft

theorem CutoffInv.takeRun {s : State} (h : CutoffInv s) (hs : s.mode ≠ .hold) : CutoffInv s.takeRun := by
  have hrun : CutoffInv (s.changeMode .running) := CutoffsIn.changeMode (h.inMode hs (by decide))
  unfold State.takeRun
  split
  · exact hrun.cycleStart
  · exact hrun
  · exact h
  · exact h

theorem CutoffsIn.takeUpFace {m : Mode} {s : State} (h : CutoffsIn m s) (i : FaceNo) : CutoffsIn m (State.takeUpFace i s) := by
  unfold State.takeUpFace
  dsimp only
  split
  · refine h.setFace ?_
    unfold FaceCutoffs ChainFaultsOnly
    rw [takeUp_state, takeUp_asserted]
    exact h i
  · exact h

theorem CutoffInv.takeResume {s : State} (h : CutoffInv s) : CutoffInv s.takeResume := by
  unfold State.takeResume
  refine CutoffsIn.changeMode (m := .running) ?_
  exact eachFace_keeps (P := CutoffsIn .running) (fun i _ ht => ht.takeUpFace i) _ (h.leaveHold (by decide))

theorem CutoffInv.losePlace {s : State} (h : CutoffInv s) (n : Span) (i : FaceNo) : CutoffInv (State.losePlace n i s) := by
  unfold State.losePlace
  split
  · exact h
  · exact (h.setFaceConfig i _).goOffline i

theorem CutoffInv.changeSpan {s : State} (h : CutoffInv s) (n : Span) : CutoffInv (s.changeSpan n) := by
  have hplaces : CutoffInv (if n.size < s.span.size then s.eachFace (State.losePlace n) else s) := by
    split
    · exact eachFace_keeps (P := CutoffInv) (fun i _ ht => ht.losePlace n i) s h
    · exact h
  exact hplaces

theorem CutoffInv.setEnabled {s : State} (h : CutoffInv s) (members : FaceSet) (flag : Bool) (i : FaceNo) :
    CutoffInv (State.setEnabled members flag i s) := by
  unfold State.setEnabled
  split
  · exact h.setFaceConfig i _
  · exact h

theorem CutoffInv.conditionFace {s : State} (h : CutoffInv s) (members : FaceSet) (c : Conditioning) (i : FaceNo) :
    CutoffInv (State.conditionFace members c i s) := by
  unfold State.conditionFace
  split
  · exact CutoffsIn.setFace (m := s.mode) h ((h.face i).conditioned c)
  · exact h

/-- R100: a face without OVERBRIGHT asserted may be driven again. -/
theorem CutoffInv.restoreFace {s : State} {i : FaceNo} (h : CutoffInv s)
    (ho : kindIn (s.faces.get i).dyn.asserted .overbright = false) : CutoffInv (s.restoreFace i) := by
  have hrestored : FaceCutoffs s.mode { (s.faces.get i).dyn with state := .active, commanded := some 0 } :=
    ⟨fun _ => nofun, fun _ _ => ho, by simp [ChainFaultsOnly]⟩
  exact (h.setFaceDyn hrestored).post _

theorem CutoffInv.takeSnapshot {s : State} (h : CutoffInv s) : CutoffInv s.takeSnapshot := by
  intro i
  simp only [State.takeSnapshot, Table.get_map]
  exact h i

theorem CutoffInv.claimFace {s : State} (h : CutoffInv s) (members : FaceSet) (c : Claim) (i : FaceNo) :
    CutoffInv (State.claimFace members c i s) := by
  have hset : CutoffInv (s.setClaim i (some c)) := h
  unfold State.claimFace
  split
  · split
    · exact hset
    · exact hset.post _
  · exact h

theorem CutoffInv.releaseFace {s : State} (h : CutoffInv s) (members : FaceSet) (i : FaceNo) :
    CutoffInv (State.releaseFace members i s) := by
  have hset : CutoffInv (s.setClaim i none) := h
  unfold State.releaseFace
  split
  · exact hset.post _
  · exact h

theorem CutoffInv.setAutosnap {s : State} (h : CutoffInv s) (on : Bool) : CutoffInv (s.setAutosnap on) := by
  unfold State.setAutosnap; split <;> exact h

theorem CutoffInv.requestEffect {s t : State} (h : CutoffInv s) (e : RequestEffect s t) : CutoffInv t := by
  cases e with
  | nothing => exact h
  | halt => exact h.takeHalt
  | run hs => exact h.takeRun hs
  | resume _ => exact h.takeResume
  | span n _ _ => exact h.changeSpan n
  | face i f => exact h.setFaceConfig i _
  | enabled members flag => exact eachFace_keeps (P := CutoffInv) (fun i _ ht => ht.setEnabled members flag i) s h
  | condition members c _ => exact eachFace_keeps (P := CutoffInv) (fun i _ ht => ht.conditionFace members c i) s h
  | restore i _ ho => exact h.restoreFace ho
  | snapshot => exact h.takeSnapshot
  | autosnap on => exact h.setAutosnap on
  | claim set mode hold _ => exact eachFace_keeps (P := CutoffInv) (fun i _ ht => ht.claimFace _ _ i) s h
  | release members => exact eachFace_keeps (P := CutoffInv) (fun i _ ht => ht.releaseFace members i) s h
  | dayClock | curfew | scanPeriod | zone | period | retries | curve | persist | fetch | changes | holdoff | collect => exact h

/-! ### Resets -/

/-- R87: a reset leaves every face OFFLINE or JOINING with nothing asserted, whatever mode follows. -/
theorem clearKnowledge_cutoffsIn (m : Mode) (s : State) : CutoffsIn m s.clearKnowledge := by
  intro i
  show FaceCutoffs m ((s.faces.map Face.afterReset).get i).dyn
  rw [Table.get_map]
  exact faceCutoffs_cleared m (by split <;> simp)

theorem beginReset_cutoffInv (s : State) (cause : ResetCause) : CutoffInv (s.beginReset cause) := clearKnowledge_cutoffsIn _ _

theorem finishReset_cutoffInv (s : State) (cause : ResetCause) (straps : Straps) : CutoffInv (s.finishReset cause straps) := by
  unfold State.finishReset
  dsimp only
  refine CutoffInv.cycleStart (CutoffInv.post ?_ _)
  exact clearKnowledge_cutoffsIn (strapMode straps) (if cause.cold then s.coldConfiguration (strapWidth straps) else s)

theorem CutoffInv.tryFinish {s : State} (h : CutoffInv s) (straps : Straps) : CutoffInv (s.tryFinish straps) := by
  unfold State.tryFinish
  split
  · split
    · exact finishReset_cutoffInv s _ straps
    · exact h
  · exact h

theorem replySent_keeps_cutoffs {s t : State} {l : Link} {straps : Straps} (h : CutoffInv s)
    (e : exec (.replySent l straps) s = .next t) : CutoffInv t := by
  cases e
  split
  · dsimp only
    split
    · exact (beginReset_cutoffInv _ _).tryFinish straps
    · exact h.setPort l _
  · exact h

theorem resetPinLow_keeps_cutoffs {s t : State} (h : CutoffInv s) (e : exec .resetPinLow s = .next t) : CutoffInv t := by
  cases e
  split
  · exact h
  · exact beginReset_cutoffInv _ _

theorem supplyDip_keeps_cutoffs {s t : State} (h : CutoffInv s) (e : exec .supplyDip s = .next t) : CutoffInv t := by
  cases e
  split
  · exact beginReset_cutoffInv _ _
  · exact h

theorem supplyOff_keeps_cutoffs {s t : State} (e : exec .supplyOff s = .next t) : CutoffInv t := by
  cases e; exact beginReset_cutoffInv _ _

theorem resetPinRelease_keeps_cutoffs {s t : State} {straps : Straps} (h : CutoffInv s)
    (e : exec (.resetPinRelease straps) s = .next t) : CutoffInv t := by
  cases e
  exact CutoffInv.tryFinish (s := { s with resetLine := { s.resetLine with pinLow := false } }) h straps

theorem supplyRecovery_keeps_cutoffs {s t : State} {straps : Straps} (h : CutoffInv s)
    (e : exec (.supplyRecovery straps) s = .next t) : CutoffInv t := by
  cases e
  exact CutoffInv.tryFinish (s := { s with resetLine := { s.resetLine with supply := .working } }) h straps

/-! ### The chain's events -/

/-- R8: no slot is in hand in HALTED, so every slot end has its cutoff test. -/
theorem ChainInv.not_halted {s : State} {c : Cycle} (h : ChainInv s) (hc : s.cycle = some c) : s.mode ≠ .halted := by
  intro hhalted
  have hnone := ((h.live_of_cycle hc).halted hhalted).1
  rw [hc] at hnone
  cases hnone

theorem cycleTimerExpiry_keeps_cutoffs {s t : State} (h : CutoffInv s) (e : exec .cycleTimerExpiry s = .next t) :
    CutoffInv t := by
  cases e
  split
  · exact h
  · split
    · exact CutoffInv.post (s := { s with overruns := _, overrunWaiting := true, cycleTimer := none }) h _
    · split
      · exact h
      · exact h.cycleStart

theorem chainFrameSent_keeps_cutoffs {s t : State} (h : CutoffInv s) (e : exec .chainFrameSent s = .next t) : CutoffInv t := by
  cases e
  split
  · split <;> exact h
  · exact h

theorem replyWindowExpiry_keeps_cutoffs {s t : State} (hchain : ChainInv s) (h : CutoffInv s)
    (e : exec .replyWindowExpiry s = .next t) : CutoffInv t := by
  cases e
  split
  · rename_i c hc
    split
    · exact h.attemptFailed (hchain.not_halted hc) c _
    · exact h
    · exact h
  · exact h

theorem chainByteReceived_keeps_cutoffs {s t : State} {b : Byte} (hchain : ChainInv s) (h : CutoffInv s)
    (e : exec (.chainByteReceived b) s = .next t) : CutoffInv t := by
  cases e
  split
  · rename_i c hc
    split
    · exact h
    · split <;> exact h
    · exact h.replyByte (hchain.not_halted hc) c _ _ _ _
  · exact h

theorem chainReplyGapTimeout_keeps_cutoffs {s t : State} (hchain : ChainInv s) (h : CutoffInv s)
    (e : exec .chainReplyGapTimeout s = .next t) : CutoffInv t := by
  cases e
  split
  · rename_i c hc
    split
    · exact h.attemptFailed (hchain.not_halted hc) c _
    · exact h
    · exact h
  · exact h

/-! ### Scans and seconds -/

theorem scanTimerExpiry_keeps_cutoffs {s t : State} (h : CutoffInv s) (e : exec .scanTimerExpiry s = .next t) :
    CutoffInv t := by
  cases e
  split
  · exact h
  · exact (startScan_only _).cutoffInv (s := { s with scanTimer := some s.scanPeriod }) h

theorem sensorPollEnd_keeps_cutoffs {s t : State} {r : PollEnd} (h : CutoffInv s) (e : exec (.sensorPollEnd r) s = .next t) :
    CutoffInv t := by
  cases e
  split
  · split <;> exact (endPoll_only s _ _ _).cutoffInv h
  · exact h

theorem sensorPollTimeout_keeps_cutoffs {s t : State} (h : CutoffInv s) (e : exec .sensorPollTimeout s = .next t) :
    CutoffInv t := by
  cases e
  split
  · exact (endPoll_only s _ _ _).cutoffInv h
  · exact h

theorem CutoffInv.lapseClaim {s : State} (h : CutoffInv s) (i : FaceNo) : CutoffInv (s.lapseClaim i) := by
  rw [lapseClaim_eq]
  exact CutoffInv.post (s := { s with claims := s.claims.set i none, lapsed := faceInsert s.lapsed i }) h _

theorem CutoffInv.claimsSecond {s : State} (h : CutoffInv s) : CutoffInv s.claimsSecond := by
  rw [claimsSecond_eq]
  exact (postAll_only _ _).cutoffInv
    (s := { s with claims := s.claims.map (fun c => c.bind Claim.second), lapsed := s.lapsed ||| faceSetOf s.lapsing }) h

theorem CutoffInv.autoSnapshotNow {s : State} (h : CutoffInv s) : CutoffInv s.autoSnapshotNow :=
  (CutoffInv.takeSnapshot (s := { s with autoCount := 0 }) h).post .snapshot

theorem CutoffInv.bankSecond {s : State} (h : CutoffInv s) : CutoffInv s.bankSecond := by
  unfold State.bankSecond
  split
  · split
    · exact h.autoSnapshotNow
    · exact h
  · exact h

theorem CutoffInv.claimsAndBankSecond {s : State} (h : CutoffInv s) : CutoffInv s.claimsAndBankSecond := by
  have hchoice : CutoffInv { s with freeChoices := s.freeChoices + 1 } := h
  unfold State.claimsAndBankSecond
  split
  · dsimp only
    split
    · exact hchoice.bankSecond.claimsSecond
    · exact hchoice.claimsSecond.bankSecond
  · exact h.claimsSecond.bankSecond

theorem oneSecondEvent_keeps_cutoffs {s t : State} (h : CutoffInv s) (e : exec .oneSecondEvent s = .next t) : CutoffInv t := by
  cases e
  split
  · exact h
  · exact CutoffInv.claimsAndBankSecond
      (s := { s with seconds := s.seconds + 1#16, dayClock := s.dayClock.map nextSecondOfDay }) h

theorem claimLapse_keeps_cutoffs {s t : State} {i : FaceNo} (h : CutoffInv s) (e : exec (.claimLapse i) s = .next t) :
    CutoffInv t := by
  cases e
  split
  · split
    · exact h.lapseClaim i
    · exact h
  · exact h

theorem autoSnapshot_keeps_cutoffs {s t : State} (h : CutoffInv s) (e : exec .autoSnapshot s = .next t) : CutoffInv t := by
  cases e
  split
  · exact h.autoSnapshotNow
  · exact h

theorem holdoffExpiry_keeps_cutoffs {s t : State} (h : CutoffInv s) (e : exec .holdoffExpiry s = .next t) : CutoffInv t := by
  cases e
  split <;> exact h

/-! ### Every command, every step -/

theorem exec_keeps_cutoffs {i : Instr} {s t : State} (hchain : ChainInv s) (h : CutoffInv s) (e : exec i s = .next t) :
    CutoffInv t := by
  have hport : ∀ u l p, CutoffInv u → CutoffInv (u.setPort l p) := fun _ l p hu => hu.setPort l p
  have heffect : ∀ u v, RequestEffect u v → CutoffInv u → CutoffInv v := fun _ _ he hu => hu.requestEffect he
  cases i
  case linkByteReceived => exact linkByteReceived_keeps hport heffect h e
  case linkFrameTimeout => exact linkFrameTimeout_keeps hport h e
  case replySent => exact replySent_keeps_cutoffs h e
  case cycleTimerExpiry => exact cycleTimerExpiry_keeps_cutoffs h e
  case chainFrameSent => exact chainFrameSent_keeps_cutoffs h e
  case replyWindowExpiry => exact replyWindowExpiry_keeps_cutoffs hchain h e
  case chainByteReceived => exact chainByteReceived_keeps_cutoffs hchain h e
  case chainReplyGapTimeout => exact chainReplyGapTimeout_keeps_cutoffs hchain h e
  case scanTimerExpiry => exact scanTimerExpiry_keeps_cutoffs h e
  case sensorPollEnd => exact sensorPollEnd_keeps_cutoffs h e
  case sensorPollTimeout => exact sensorPollTimeout_keeps_cutoffs h e
  case oneSecondEvent => exact oneSecondEvent_keeps_cutoffs h e
  case claimLapse => exact claimLapse_keeps_cutoffs h e
  case autoSnapshot => exact autoSnapshot_keeps_cutoffs h e
  case holdoffExpiry => exact holdoffExpiry_keeps_cutoffs h e
  case resetPinLow => exact resetPinLow_keeps_cutoffs h e
  case resetPinRelease => exact resetPinRelease_keeps_cutoffs h e
  case supplyDip => exact supplyDip_keeps_cutoffs h e
  case supplyOff => exact supplyOff_keeps_cutoffs e
  case supplyRecovery => exact supplyRecovery_keeps_cutoffs h e
  all_goals exact request_keeps hport heffect rfl h e

/-- Settles O56: every command keeps the rule where the chain's invariant holds, which has no slot in hand in HALTED; neither reads the
queue of commands. -/
theorem stepKeepsCutoffs : Obligations.StepKeepsCutoffs := by
  unfold Obligations.StepKeepsCutoffs
  intro s t hchain h hstep
  rcases step_cases hstep with rfl | ⟨i, rest, _, e⟩
  · exact h
  · have hchain' : ChainInv { s with pending := rest } := hchain
    have h' : CutoffInv { s with pending := rest } := h
    exact exec_keeps_cutoffs hchain' h' e

end Sys2Proof.Machine
end

section
/-! The requests on faces: what READ_FACE, READ_COUNTS and AUTH_READ_FACE report, field by field (O29), and RESTORE (O28). -/

namespace Sys2Proof.Machine

/-! ### Reply data (R172) -/

theorem bytes4_eq (v : Nat) : bytes4 v = fieldBytes 4 v := by simp [bytes4, fieldBytes]

theorem byteFaceSet_eq (m : FaceSet) : byteFaceSet m = setBytes m := bytes4_eq m.toNat

theorem byteFlag_eq (b : Bool) : byteFlag b = [flagByte b] := rfl

theorem fieldBytes_faceState (x : FaceState) : fieldBytes 1 x.no = [x.code] := by cases x <;> rfl

theorem byteConditioning_eq (c : Conditioning) : byteConditioning c = [c.code] ++ maybeBytes 2 c.level := by
  cases c with
  | fixed v => simp only [byteConditioning, byteOption_eq bytes2_eq]; rfl
  | normal | blank | pattern => rfl

theorem byteFaceConfig_eq (c : FaceConfig) : byteFaceConfig c = c.layout := by
  simp only [byteFaceConfig, FaceConfig.layout, byteFlag_eq, bytes1_eq, bytes2_eq, byteConditioning_eq, List.append_assoc]
  rfl

/-- R128: AUTHORITY exactly while a claim record exists. -/
theorem fieldBytes_owner (s : State) (i : FaceNo) : fieldBytes 1 (s.owner i).no = [s.ownerCode i] := by
  have hcode : ∀ o : Owner, fieldBytes 1 o.no = [o.code] := by intro o; cases o <;> rfl
  rw [hcode]
  unfold State.owner State.ownerCode
  cases s.claims.get i <;> rfl

/-- A capability that may be absent, in 4 bytes. -/
def capabilityBytes : Option Capability → List Byte
  | none => [0#8, 0#8, 0#8, 0#8]
  | some c => [1#8, c.maxWidth.byte, flagByte c.photometer] ++ fieldBytes 1 c.strings

theorem byteCapability_eq (c : Capability) :
    byteCapability c = [c.maxWidth.byte, flagByte c.photometer] ++ fieldBytes 1 c.strings := by
  simp only [byteCapability, byteWidth_eq, byteFlag_eq, bytes1_eq, List.singleton_append]

theorem byteOption_capability (o : Option Capability) : byteOption 3 byteCapability o = capabilityBytes o := by
  cases o with
  | none => rfl
  | some c => exact congrArg (1#8 :: ·) (byteCapability_eq c)

/-- A shown code that may be absent, in 4 bytes. -/
def shownBytes : Option ShownCode → List Byte
  | none => [0#8, 0#8, 0#8, 0#8]
  | some c => [1#8] ++ fieldBytes 2 c.code ++ [c.width.byte]

theorem byteShown_eq (c : ShownCode) : byteShown c = fieldBytes 2 c.code ++ [c.width.byte] := by
  rw [byteShown, bytes2_eq, byteWidth_eq]

theorem byteOption_shown (o : Option ShownCode) : byteOption 3 byteShown o = shownBytes o := by
  cases o with
  | none => rfl
  | some c => exact congrArg (1#8 :: ·) (byteShown_eq c)

theorem byteClaimMode_eq (m : ClaimMode) : byteClaimMode m = [m.code] ++ maybeBytes 2 m.level := by
  cases m with
  | cap v => simp only [byteClaimMode, byteOption_eq bytes2_eq]; rfl
  | blank => rfl

/-- A claim record that may be absent, in 8 bytes. -/
def claimBytes : Option Claim → List Byte
  | none => List.replicate 8 0#8
  | some c => [1#8, c.mode.code] ++ maybeBytes 2 c.mode.level ++ fieldBytes 3 c.remaining

theorem byteClaim_eq (c : Claim) :
    byteClaim c = [c.mode.code] ++ maybeBytes 2 c.mode.level ++ fieldBytes 3 c.remaining := by
  rw [byteClaim, byteClaimMode_eq, bytes3_eq]

theorem byteOption_claim (o : Option Claim) : byteOption 7 byteClaim o = claimBytes o := by
  cases o with
  | none => rfl
  | some c => exact congrArg (1#8 :: ·) (byteClaim_eq c)

theorem finRange_eq_kinds : List.finRange 8 = allKinds.map FaultKind.no := by decide

/-- R113: the runs, kind by kind. -/
theorem runs_eq (t : Table Runs 8) :
    allKinds.flatMap (fun k => byteRuns (t.get k.no)) =
      (List.finRange 8).flatMap (fun k => fieldBytes 1 (t.get k).present ++ fieldBytes 1 (t.get k).absent) := by
  rw [finRange_eq_kinds, List.flatMap_map]
  simp only [byteRuns, bytes1_eq]

/-! ### READ_FACE, READ_COUNTS and AUTH_READ_FACE (R104, R135, R147) -/

theorem faceData_eq (s : State) (i : FaceNo) : s.faceData i = s.faceLayout i := by
  simp only [State.faceData, State.faceLayout, byteFaceConfig_eq, byteOption_capability, byteOption_eq bytes1_eq,
    byteOption_eq bytes2_eq, byteOption_shown, byteFaceFlags, byteFlag_eq, bytes1_eq, fieldBytes_faceState, fieldBytes_owner,
    runs_eq, List.append_assoc, List.cons_append, List.nil_append]
  rfl

theorem authorityFaceData_eq (s : State) (i : FaceNo) : s.authorityFaceData i = s.authorityLayout i := by
  simp only [State.authorityFaceData, State.authorityLayout, byteOption_claim, byteOption_eq bytes2_eq, bytes1_eq,
    fieldBytes_faceState, fieldBytes_owner, List.append_assoc, List.cons_append, List.nil_append]
  rfl

theorem byteOption_stamp (o : Option (BitVec 16)) :
    byteOption 2 (fun t : BitVec 16 => fieldBytes 2 t.toNat) o = maybeBytes 2 (o.map BitVec.toNat) := by
  cases o <;> rfl

theorem countsData_eq (s : State) (i : FaceNo) :
    s.countsData i =
      fieldBytes 1 i.val ++ fieldBytes 2 (s.faces.get i).snap.missed ++ fieldBytes 2 (s.faces.get i).snap.corrupt
        ++ fieldBytes 2 (s.faces.get i).snap.echo ++ fieldBytes 2 (s.faces.get i).snap.cutoffs ++ fieldBytes 2 s.snapRetries
        ++ maybeBytes 2 (s.snapStamp.map BitVec.toNat) := by
  simp only [State.countsData, byteCounters, bytes1_eq, bytes2_eq, byteOption_stamp, List.append_assoc]

/-- Settles O29: by the length of the payload. -/
theorem readFaceRecords : Obligations.ReadFaceRecords := by
  unfold Obligations.ReadFaceRecords
  intro tag payload s
  refine ⟨fun h => ⟨?_, ?_⟩, fun h => ?_⟩
  · rcases payload with _ | ⟨a, _ | ⟨b, rest⟩⟩
    · exact exec_taken (r := ⟨.readFace, tag, []⟩) rfl h rfl
    · simp only [← faceData_eq]
      exact exec_taken (r := ⟨.readFace, tag, [a]⟩) rfl h rfl
    · exact exec_taken (r := ⟨.readFace, tag, a :: b :: rest⟩) rfl h rfl
  · rcases payload with _ | ⟨a, _ | ⟨b, rest⟩⟩
    · exact exec_taken (r := ⟨.readCounts, tag, []⟩) rfl h rfl
    · simp only [← countsData_eq]
      exact exec_taken (r := ⟨.readCounts, tag, [a]⟩) rfl h rfl
    · exact exec_taken (r := ⟨.readCounts, tag, a :: b :: rest⟩) rfl h rfl
  · rcases payload with _ | ⟨a, _ | ⟨b, rest⟩⟩
    · exact exec_taken (r := ⟨.authReadFace, tag, []⟩) rfl h rfl
    · simp only [← authorityFaceData_eq]
      exact exec_taken (r := ⟨.authReadFace, tag, [a]⟩) rfl h rfl
    · exact exec_taken (r := ⟨.authReadFace, tag, a :: b :: rest⟩) rfl h rfl

/-! ### RESTORE (R100) -/

/-- Settles O28: by the length of the payload, and by the face's state. -/
theorem restoreRequest : Obligations.RestoreRequest := by
  unfold Obligations.RestoreRequest
  intro tag payload s h
  rcases payload with _ | ⟨a, _ | ⟨b, rest⟩⟩
  · exact exec_taken (r := ⟨.restore, tag, []⟩) rfl h rfl
  · dsimp only
    split
    · rename_i hcool; exact exec_taken (r := ⟨.restore, tag, [a]⟩) rfl h (if_pos hcool)
    · rename_i hnot; exact exec_taken (r := ⟨.restore, tag, [a]⟩) rfl h (if_neg hnot)
  · exact exec_taken (r := ⟨.restore, tag, a :: b :: rest⟩) rfl h rfl

end Sys2Proof.Machine
end

section
/-! The requests that store in the face table: SET_FACE (O26), and ENABLE, DISABLE and CONDITION on the folded set (O27). -/

namespace Sys2Proof.Machine

/-! ### SET_FACE: the payload (R172) -/

theorem faceFields_length (f : FaceFields) : f.list.length = 8 := rfl

theorem readFaceFields_presentBytes {f : FaceFields} (h : fieldsFit faceSizes f.list = true) :
    readFaceFields (presence f.list) (presentBytes faceSizes f.list) = some f := by
  have hread := readFields_presentBytes h 0
  rw [Nat.mul_zero, Nat.add_zero] at hread
  unfold readFaceFields
  rw [show ([1, 1, 2, 2, 2, 2, 2, 1] : List Nat) = faceSizes from rfl, hread]
  rfl

theorem judgeSetFace_of_fields {f : FaceFields} (h : fieldsFit faceSizes f.list = true) (face : Byte) (s : State) :
    judgeSetFace (facePayload face f) s = judgeFaceFields face f s := by
  have hp := presence_lt f.list
  rw [faceFields_length] at hp
  have hmask : (BitVec.ofNat 8 (presence f.list / 256 ^ 0)).toNat = presence f.list := by
    rw [pow_zero, Nat.div_one, BitVec.toNat_ofNat, Nat.mod_eq_of_lt hp]
  simp only [facePayload, fieldBytes, List.cons_append, List.nil_append, judgeSetFace, hmask, readFaceFields_presentBytes h]

theorem judgeSetFace_of_badLength {mask : Byte} {rest : List Byte} (h : rest.length ≠ markedBytes faceSizes mask.toNat)
    (face : Byte) (s : State) : judgeSetFace (face :: mask :: rest) s = (.refused .badLength, s) := by
  have hnone : readFields mask.toNat faceSizes rest = none :=
    Option.eq_none_iff_forall_ne_some.mpr fun fs hfs => h (length_of_readFields hfs)
  have hread : readFaceFields mask.toNat rest = none := by
    unfold readFaceFields
    rw [show ([1, 1, 2, 2, 2, 2, 2, 1] : List Nat) = faceSizes from rfl, hnone]
  simp only [judgeSetFace, hread, refuse]

/-! ### SET_FACE: the tests and the storing (R88) -/

/-- R88, tests 2 to 4. -/
abbrev FaceFields.Bad (f : FaceFields) : Prop :=
  f.zone.any (fun v => decide (8 ≤ v)) ∨ f.curve.any (fun v => decide (8 ≤ v)) ∨ f.proof.any (fun v => decide (2 ≤ v))

theorem readOnOff_isSome (v : Nat) : (readOnOff v).isSome = !decide (2 ≤ v) := by
  match v with
  | 0 => rfl
  | 1 => rfl
  | n + 2 => simp [readOnOff]

/-- A test of a field passes where its opposite finds no value. -/
theorem all_eq_not_any {p q : Nat → Bool} (h : ∀ v, p v = !q v) (o : Option Nat) : o.all p = !o.any q := by
  cases o with
  | none => rfl
  | some v => exact h v

theorem good_eq_true (f : FaceFields) : f.good = true ↔ ¬ f.Bad := by
  have hnumber : ∀ v : Nat, decide (v < 8) = !decide (8 ≤ v) := fun v => by rw [← decide_not]; simp
  rw [FaceFields.good, all_eq_not_any hnumber, all_eq_not_any hnumber, all_eq_not_any readOnOff_isSome]
  simp only [FaceFields.Bad, Bool.and_eq_true, Bool.not_eq_true', not_or, Bool.not_eq_true, and_assoc]

/-- A setting stored, any number but 1 being off. -/
def storedSetting (old : Bool) : Option Nat → Bool
  | none => old
  | some v => decide (v = 1)

theorem setting_stored {f : Option Nat} (h : f.any (fun v => decide (2 ≤ v)) = false) (old : Bool) :
    (f.bind readOnOff).getD old = storedSetting old f := by
  match f with
  | none => rfl
  | some 0 => rfl
  | some 1 => rfl
  | some (n + 2) => simp at h

/-- R88: what a request that passed its tests leaves of the configuration. -/
theorem faceStore_eq_updated {f : FaceFields} (h : ¬ f.Bad) (c : FaceConfig) : f.store c = c.updated f := by
  obtain ⟨_, _, hproof⟩ := not_or.mp h |>.imp_right not_or.mp
  unfold FaceFields.store FaceConfig.updated
  simp only [storeField_eq_stored, setting_stored (Bool.eq_false_iff.mpr hproof)]
  rfl

theorem faceClamped_eq (f : FaceFields) :
    f.clamped = (outside 128 384 f.trim || outside 0 10000 f.cap || outside 1000 10000 f.fullScale
      || outside 1 10000 f.slewUp || outside 1 10000 f.slewDown) := by
  unfold FaceFields.clamped
  rw [fieldClamped_eq_outside (by decide : 128 ≤ 384), fieldClamped_eq_outside (Nat.zero_le 10000),
    fieldClamped_eq_outside (by decide : 1000 ≤ 10000), fieldClamped_eq_outside (by decide : 1 ≤ 10000),
    fieldClamped_eq_outside (by decide : 1 ≤ 10000)]

theorem judgeFaceFields_of_bad {f : FaceFields} (h : f.Bad) (face : Byte) (s : State) :
    judgeFaceFields face f s = (.refused .badValue, s) :=
  if_neg fun hgood => (good_eq_true f).mp hgood h

theorem judgeFaceFields_of_good {f : FaceFields} (h : ¬ f.Bad) (face : Byte) (s : State) :
    judgeFaceFields face f s =
      let i := s.span.fold face.toNat
      let c := (s.faces.get i).config.updated f
      (.done (outside 128 384 f.trim || outside 0 10000 f.cap || outside 1000 10000 f.fullScale
          || outside 1 10000 f.slewUp || outside 1 10000 f.slewDown) (fieldBytes 1 i.val ++ c.layout),
        { s with faces := s.faces.set i { s.faces.get i with config := c } }) := by
  rw [judgeFaceFields, if_pos ((good_eq_true f).mpr h)]
  simp only [faceStore_eq_updated h, faceClamped_eq, bytes1_eq, byteFaceConfig_eq]
  rfl

/-- Settles O26: the fields read back from the payload, then R88's tests. -/
theorem setFace : Obligations.SetFace := by
  unfold Obligations.SetFace
  intro tag s h
  have htake : ∀ {payload : List Byte} {a : Answer} {t : State}, judgeSetFace payload s = (a, t) →
      exec (.setFace tag payload) s = .next (t.answered .setFace tag a) :=
    fun {payload _ _} hj => exec_taken (r := ⟨.setFace, tag, payload⟩) rfl h hj
  refine ⟨fun face f hfit => ?_, fun payload hlen => ?_, fun face mask rest hlen => ?_⟩
  · have hjudge := judgeSetFace_of_fields hfit face s
    split
    · rename_i hbad; exact htake (hjudge.trans (judgeFaceFields_of_bad hbad face s))
    · rename_i hgood; exact htake (hjudge.trans (judgeFaceFields_of_good hgood face s))
  · rcases payload with _ | ⟨a, _ | ⟨b, rest⟩⟩
    · exact htake rfl
    · exact htake rfl
    · simp only [List.length_cons] at hlen; omega
  · exact htake (judgeSetFace_of_badLength hlen face s)

/-! ### The folded set (R20) -/

theorem readFaceSet_eq (a b c d : Byte) : readFaceSet a b c d = mask4 a b c d := by
  unfold readFaceSet mask4
  congr 1
  simp only [readBytes, List.foldl_cons, List.foldl_nil]
  omega

theorem foldSet_eq_folded (s : State) (m : FaceSet) : s.span.foldSet m = s.folded m := by
  refine faceSet_ext fun j => Bool.eq_iff_iff.mpr ?_
  rw [faceIn_foldSet, State.folded, faceIn_faceSetOf, decide_eq_true_iff]
  rfl

/-- A change of the members' records, face by face, is one change of the face table. -/
theorem eachFace_members {g : Face → Face} {members : FaceSet} {f : FaceNo → State → State}
    (h : ∀ i t, f i t = if faceIn members i then t.setFace i (g (t.faces.get i)) else t) (s : State) :
    s.eachFace f = { s with faces := s.faces.mapNo (fun i x => if faceIn members i then g x else x) } := by
  obtain ⟨table, htable⟩ : ∃ table, s.eachFace f = { s with faces := table } := by
    refine eachFace_keeps (P := fun t => ∃ table, t = { s with faces := table }) ?_ s ⟨s.faces, rfl⟩
    rintro i t ⟨table, rfl⟩
    rw [h]
    split
    · exact ⟨_, rfl⟩
    · exact ⟨_, rfl⟩
  have hread := eachFace_read (fun t i => t.faces.get i) (fun i x => if faceIn members i then g x else x) (f := f)
    (fun i t => by rw [h]; split <;> simp) (fun i j t hj => by rw [h]; split <;> simp [hj]) s
  rw [htable] at hread ⊢
  congr 1
  exact Table.ext_get fun i => by rw [Table.get_mapNo]; exact hread i

/-! ### ENABLE, DISABLE and CONDITION (R80, R90) -/

theorem eachFace_setEnabled (members : FaceSet) (flag : Bool) (s : State) :
    s.eachFace (State.setEnabled members flag) =
      { s with faces := s.faces.mapNo (fun i f =>
          if faceIn members i then { f with config := { f.config with enabled := flag } } else f) } :=
  eachFace_members (g := fun f => { f with config := { f.config with enabled := flag } }) (fun _ _ => rfl) s

theorem eachFace_conditionFace (members : FaceSet) (c : Conditioning) (s : State) :
    s.eachFace (State.conditionFace members c) =
      { s with faces := s.faces.mapNo (fun i f => if faceIn members i then f.conditioned c else f) } :=
  eachFace_members (g := fun f => f.conditioned c) (fun _ _ => rfl) s

theorem judgeEnabling_four (flag : Bool) (a b c d : Byte) (s : State) :
    judgeEnabling flag [a, b, c, d] s =
      (.done false (setBytes (s.folded (mask4 a b c d))),
        { s with faces := s.faces.mapNo (fun i f =>
            if faceIn (s.folded (mask4 a b c d)) i then { f with config := { f.config with enabled := flag } } else f) }) := by
  simp only [judgeEnabling, readFaceSet_eq, foldSet_eq_folded, byteFaceSet_eq, eachFace_setEnabled]

theorem judgeEnabling_badLength {payload : List Byte} (h : ∀ a b c d, payload ≠ [a, b, c, d]) (flag : Bool) (s : State) :
    judgeEnabling flag payload s = (.refused .badLength, s) := by
  unfold judgeEnabling
  split
  · exact absurd rfl (h _ _ _ _)
  · rfl

theorem claimedSet_eq (s : State) : s.claimedSet = s.claimed := rfl

/-- The part once CONDITION has stored `x` on the faces of the set `m` (R80, R79). -/
def State.conditioned (s : State) (m : FaceSet) (x : Conditioning) : State :=
  { s with faces := s.faces.mapNo (fun i f => if faceIn m i then f.conditioned x else f) }

/-- What CONDITION answers: the folded set, and its faces that hold claims. -/
def State.conditionData (s : State) (m : FaceSet) : List Byte := setBytes m ++ setBytes (m &&& s.claimed)

/-- R79: the four conditionings there are. -/
theorem readConditioning_cases (code : Byte) (level : Nat) :
    code = 0#8 ∧ readConditioning code level = some .normal ∨
      code = 1#8 ∧ readConditioning code level = some (.fixed (clamp 0 10000 level)) ∨
      code = 2#8 ∧ readConditioning code level = some .blank ∨ code = 3#8 ∧ readConditioning code level = some .pattern ∨
      (code ≠ 0#8 ∧ code ≠ 1#8 ∧ code ≠ 2#8 ∧ code ≠ 3#8) ∧ readConditioning code level = none := by
  have hnat : ∀ v : Byte, code.toNat = v.toNat ↔ code = v := fun v => BitVec.toNat_inj
  unfold readConditioning
  split
  · rename_i h; exact .inl ⟨(hnat 0#8).mp h, rfl⟩
  · rename_i h; exact .inr (.inl ⟨(hnat 1#8).mp h, rfl⟩)
  · rename_i h; exact .inr (.inr (.inl ⟨(hnat 2#8).mp h, rfl⟩))
  · rename_i h; exact .inr (.inr (.inr (.inl ⟨(hnat 3#8).mp h, rfl⟩)))
  · rename_i h0 h1 h2 h3
    exact .inr (.inr (.inr (.inr ⟨⟨fun h => h0 ((hnat 0#8).mpr h), fun h => h1 ((hnat 1#8).mpr h),
      fun h => h2 ((hnat 2#8).mpr h), fun h => h3 ((hnat 3#8).mpr h)⟩, rfl⟩)))

theorem judgeCondition_seven (a b c d code hi lo : Byte) (s : State) :
    judgeCondition [a, b, c, d, code, hi, lo] s =
      let m := s.folded (mask4 a b c d)
      if code = 0#8 then (.done false (s.conditionData m), s.conditioned m .normal)
      else if code = 1#8 then
        (.done (decide (10000 < word2 hi lo)) (s.conditionData m), s.conditioned m (.fixed (min (word2 hi lo) 10000)))
      else if code = 2#8 then (.done false (s.conditionData m), s.conditioned m .blank)
      else if code = 3#8 then (.done false (s.conditionData m), s.conditioned m .pattern)
      else (.refused .badValue, s) := by
  simp only [judgeCondition, readFaceSet_eq, foldSet_eq_folded, byteFaceSet_eq, claimedSet_eq, eachFace_conditionFace,
    readBytes_two]
  rcases readConditioning_cases code (word2 hi lo) with
    ⟨rfl, hread⟩ | ⟨rfl, hread⟩ | ⟨rfl, hread⟩ | ⟨rfl, hread⟩ | ⟨⟨h0, h1, h2, h3⟩, hread⟩
  · rw [hread]; rfl
  · rw [hread, ← clamp_zero_ne, ← clamp_zero]; rfl
  · rw [hread]; rfl
  · rw [hread]; rfl
  · rw [hread, if_neg h0, if_neg h1, if_neg h2, if_neg h3]; rfl

theorem judgeCondition_badLength {payload : List Byte} (h : ∀ a b c d code hi lo, payload ≠ [a, b, c, d, code, hi, lo])
    (s : State) : judgeCondition payload s = (.refused .badLength, s) := by
  unfold judgeCondition
  split
  · exact absurd rfl (h _ _ _ _ _ _ _)
  · rfl

/-- R80: CONDITION by its code. -/
theorem exec_condition_seven {s : State} (h : s.takes .control) (tag a b c d code hi lo : Byte) :
    exec (.condition tag [a, b, c, d, code, hi, lo]) s = .next (
      let m := s.folded (mask4 a b c d)
      let done (clamped : Bool) (x : Conditioning) : State :=
        (s.conditioned m x).answered .condition tag (.done clamped (s.conditionData m))
      if code = 0#8 then done false .normal
      else if code = 1#8 then done (decide (10000 < word2 hi lo)) (.fixed (min (word2 hi lo) 10000))
      else if code = 2#8 then done false .blank
      else if code = 3#8 then done false .pattern
      else s.answered .condition tag (.refused .badValue)) := by
  have htake : ∀ {x : Answer} {t : State}, judgeCondition [a, b, c, d, code, hi, lo] s = (x, t) →
      exec (.condition tag [a, b, c, d, code, hi, lo]) s = .next (t.answered .condition tag x) :=
    fun {_ _} hj => exec_taken (r := ⟨.condition, tag, [a, b, c, d, code, hi, lo]⟩) rfl h hj
  have hjudge := judgeCondition_seven a b c d code hi lo s
  dsimp only
  split
  · rename_i hcode; exact htake (hjudge.trans (if_pos hcode))
  · rename_i hnormal
    replace hjudge := hjudge.trans (if_neg hnormal)
    split
    · rename_i hcode; exact htake (hjudge.trans (if_pos hcode))
    · rename_i hfixed
      replace hjudge := hjudge.trans (if_neg hfixed)
      split
      · rename_i hcode; exact htake (hjudge.trans (if_pos hcode))
      · rename_i hblank
        replace hjudge := hjudge.trans (if_neg hblank)
        split
        · rename_i hcode; exact htake (hjudge.trans (if_pos hcode))
        · rename_i hpattern; exact htake (hjudge.trans (if_neg hpattern))

/-- Settles O27: by the length of the payload. -/
theorem enableDisableCondition : Obligations.EnableDisableCondition := by
  unfold Obligations.EnableDisableCondition
  intro tag payload s h
  refine ⟨?_, ?_, ?_⟩
  · split
    · exact exec_taken (r := ⟨.enable, tag, _⟩) rfl h (judgeEnabling_four true _ _ _ _ s)
    · rename_i hlen; exact exec_taken (r := ⟨.enable, tag, _⟩) rfl h (judgeEnabling_badLength hlen true s)
  · split
    · exact exec_taken (r := ⟨.disable, tag, _⟩) rfl h (judgeEnabling_four false _ _ _ _ s)
    · rename_i hlen; exact exec_taken (r := ⟨.disable, tag, _⟩) rfl h (judgeEnabling_badLength hlen false s)
  · split
    · exact exec_condition_seven h _ _ _ _ _ _ _ _
    · rename_i hlen; exact exec_taken (r := ⟨.condition, tag, _⟩) rfl h (judgeCondition_badLength hlen s)

end Sys2Proof.Machine
end

section
/-! SET_PERSIST (O30): the two fields read back from the payload, and a kind by its number. -/

namespace Sys2Proof.Machine

/-! ### A fault kind by its number (R172) -/

/-- The kinds stand in the list in the order of their numbers. -/
theorem allKinds_getElem_no (n : Fin 8) : (allKinds[n.val]'n.isLt).no = n := by
  revert n; decide

theorem readKind_of_number {b : Byte} (h : b.toNat < 8) : ∃ k : FaultKind, readKind b = some k ∧ k.no = ⟨b.toNat, h⟩ :=
  ⟨allKinds[b.toNat]'h, List.getElem?_eq_getElem h, allKinds_getElem_no ⟨b.toNat, h⟩⟩

theorem readKind_of_noNumber {b : Byte} (h : ¬ b.toNat < 8) : readKind b = none :=
  List.getElem?_eq_none (Nat.not_lt.mp h)

/-! ### The payload (R172) -/

theorem readFields_persistPayload {p q : Option Nat} {spare : Nat} (hs : spare < 64) (h : fieldsFit [1, 1] [p, q] = true) :
    readFields (BitVec.ofNat 8 ((presence [p, q] + 4 * spare) / 256 ^ 0)).toNat [1, 1] (presentBytes [1, 1] [p, q]) =
      some [p, q] := by
  have hp : presence [p, q] < 4 := presence_lt [p, q]
  have hmask : (BitVec.ofNat 8 ((presence [p, q] + 4 * spare) / 256 ^ 0)).toNat = presence [p, q] + 4 * spare := by
    rw [pow_zero, Nat.div_one, BitVec.toNat_ofNat, Nat.mod_eq_of_lt (by omega)]
  rw [hmask]
  exact readFields_presentBytes h spare

/-- R116: a pair of fields that fit, for a kind that has a number. -/
theorem judgeSetPersist_of_number {kind : Byte} (hk : kind.toNat < 8) {p q : Option Nat} {spare : Nat} (hs : spare < 64)
    (h : fieldsFit [1, 1] [p, q] = true) (s : State) :
    judgeSetPersist (persistPayload kind spare p q) s =
      let k : Fin 8 := ⟨kind.toNat, hk⟩
      let new : Persistence := ⟨stored 1 15 (s.persist.get k).assert p, stored 1 15 (s.persist.get k).clear q⟩
      (.done (outside 1 15 p || outside 1 15 q) ([kind] ++ fieldBytes 1 new.assert ++ fieldBytes 1 new.clear),
        { s with persist := s.persist.set k new }) := by
  obtain ⟨k, hread, hno⟩ := readKind_of_number hk
  simp only [persistPayload, fieldBytes, List.cons_append, List.nil_append, judgeSetPersist, readFields_persistPayload hs h,
    hread, hno, Persistence.store, storeField_eq_stored, fieldClamped_eq_outside (by decide : 1 ≤ 15), bytes1_eq]

theorem judgeSetPersist_of_noNumber {kind : Byte} (hk : ¬ kind.toNat < 8) {p q : Option Nat} {spare : Nat} (hs : spare < 64)
    (h : fieldsFit [1, 1] [p, q] = true) (s : State) :
    judgeSetPersist (persistPayload kind spare p q) s = (.refused .badValue, s) := by
  simp only [persistPayload, fieldBytes, List.cons_append, List.nil_append, judgeSetPersist, readFields_persistPayload hs h,
    readKind_of_noNumber hk, refuse]

theorem judgeSetPersist_of_badLength {mask : Byte} {rest : List Byte} (h : rest.length ≠ markedBytes [1, 1] mask.toNat)
    (kind : Byte) (s : State) : judgeSetPersist (kind :: mask :: rest) s = (.refused .badLength, s) := by
  have hnone : readFields mask.toNat [1, 1] rest = none :=
    Option.eq_none_iff_forall_ne_some.mpr fun fs hfs => h (length_of_readFields hfs)
  simp only [judgeSetPersist, hnone, refuse]

/-- Settles O30: the two fields read back from the payload, then the kind's number. -/
theorem setPersist : Obligations.SetPersist := by
  unfold Obligations.SetPersist
  intro tag s h
  have htake : ∀ {payload : List Byte} {a : Answer} {t : State}, judgeSetPersist payload s = (a, t) →
      exec (.setPersist tag payload) s = .next (t.answered .setPersist tag a) :=
    fun {payload _ _} hj => exec_taken (r := ⟨.setPersist, tag, payload⟩) rfl h hj
  refine ⟨fun kind spare p q hspare hfit => ?_, fun payload hlen => ?_, fun kind mask rest hlen => ?_⟩
  · split
    · rename_i hk; exact htake (judgeSetPersist_of_number hk hspare hfit s)
    · rename_i hk; exact htake (judgeSetPersist_of_noNumber hk hspare hfit s)
  · rcases payload with _ | ⟨a, _ | ⟨b, rest⟩⟩
    · exact htake rfl
    · exact htake rfl
    · simp only [List.length_cons] at hlen; omega
  · exact htake (judgeSetPersist_of_badLength hlen kind s)

end Sys2Proof.Machine
end

section
/-! The observations of a slot (O48). -/

namespace Sys2Proof.Machine

/-- An observation made by a test of the slot report is present exactly where what it tests holds. -/
theorem ofBool_eq_ite {b : Bool} {p : Prop} [Decidable p] (h : b = true ↔ p) :
    Observation.ofBool b = if p then .present else .absent := by
  by_cases hp : p
  · rw [h.mpr hp, if_pos hp]; rfl
  · rw [Bool.eq_false_iff.mpr (mt h.mp hp), if_neg hp]; rfl

/-! ### The reply that six of the kinds are judged from (R108 to R112) -/

theorem judgedStatus_of_status {r : SlotReport} {d : FaceDynamic} {st : StatusReply} (hr : r.reply = some (.status st))
    (hs : d.state = .active ∨ d.state = .cutoff) : judgedStatus r d = some st := by
  simp only [judgedStatus, hr, if_pos hs]

theorem judgedStatus_eq_none {r : SlotReport} {d : FaceDynamic}
    (h : ∀ st : StatusReply, r.reply = some (.status st) → ¬(d.state = .active ∨ d.state = .cutoff)) :
    judgedStatus r d = none := by
  unfold judgedStatus
  split
  · rename_i st hr; exact if_neg (h st hr)
  · rfl

/-- Without such a reply only NO_REPLY and BAD_FRAME are observed. -/
theorem observe_of_unjudged {r : SlotReport} {d : FaceDynamic} (hj : judgedStatus r d = none) {k : FaultKind}
    (hreply : k ≠ .noReply) (hframe : k ≠ .badFrame) : observe r d k = .notObserved := by
  cases k with
  | noReply => exact absurd rfl hreply
  | badFrame => exact absurd rfl hframe
  | echo | strings | thermal | power | overbright | door => simp only [observe, hj, Option.bind_none]

/-! ### The kinds one by one -/

theorem observe_noReply (r : SlotReport) (d : FaceDynamic) :
    observe r d .noReply = if r.reply = none then .present else .absent :=
  ofBool_eq_ite Option.isNone_iff_eq_none

theorem observe_badFrame (r : SlotReport) (d : FaceDynamic) :
    observe r d .badFrame = if .corrupt ∈ r.outcomes then .present else .absent :=
  ofBool_eq_ite List.contains_iff_mem

section
variable {r : SlotReport} {d : FaceDynamic} {st : StatusReply}

theorem observe_thermal (hj : judgedStatus r d = some st) :
    observe r d .thermal = if st.flags.thermal = true then .present else .absent := by
  simp only [observe, hj, ofBool_eq_ite Iff.rfl]

theorem observe_power (hj : judgedStatus r d = some st) :
    observe r d .power = if st.flags.power = true then .present else .absent := by
  simp only [observe, hj, ofBool_eq_ite Iff.rfl]

theorem observe_door (hj : judgedStatus r d = some st) :
    observe r d .door = if st.flags.door = true then .present else .absent := by
  simp only [observe, hj, ofBool_eq_ite Iff.rfl]

/-- R109. -/
theorem observe_strings (hj : judgedStatus r d = some st) :
    observe r d .strings =
      match st.stringsOut with
      | none => .notObserved
      | some n => if r.dmax < n then .present else .absent := by
  simp only [observe, hj, Option.bind_some]
  cases st.stringsOut with
  | none => rfl
  | some n => exact ofBool_eq_ite decide_eq_true_iff

/-- R108: the answer differs from the frame in its width, in its code, or in the proof word that the frame asked for. -/
theorem echoMismatch_iff (w : Width) (code : Nat) (proof : Option (BitVec 16)) (st : StatusReply) :
    echoMismatch w code proof st = true ↔
      st.shown.width ≠ w ∨ st.shown.code ≠ code ∨ (proof ≠ none ∧ st.echo ≠ proof) := by
  simp only [echoMismatch, Bool.or_eq_true, Bool.and_eq_true, bne_iff_ne, Option.isSome_iff_ne_none, or_assoc]

theorem observe_echo (hj : judgedStatus r d = some st) :
    observe r d .echo =
      match r.frame with
      | .level w code proof =>
        if st.shown.width ≠ w ∨ st.shown.code ≠ code ∨ (proof ≠ none ∧ st.echo ≠ proof) then .present else .absent
      | .hold | .ident => .notObserved := by
  simp only [observe, hj]
  cases r.frame with
  | level w code proof => exact ofBool_eq_ite (echoMismatch_iff w code proof st)
  | hold | ident => rfl

/-- R111: a test that needs a measurement, a photometer and a delivered level. -/
theorem observe_overbright (hj : judgedStatus r d = some st) :
    observe r d .overbright =
      match st.measured, d.capability, d.delivered with
      | some m, some c, some level =>
        if c.photometer then (if 4 * m > 5 * level + 400 then .present else .absent) else .notObserved
      | _, _, _ => .notObserved := by
  simp only [observe, hj, Option.bind_some, usableMeasurement]
  rcases d.capability with _ | ⟨width, photometer, strings⟩
  · cases st.measured <;> rfl
  · cases photometer with
    | false => cases st.measured <;> cases d.delivered <;> rfl
    | true =>
      rcases st.measured, d.delivered with ⟨_ | m, _ | level⟩
      · rfl
      · rfl
      · rfl
      · exact ofBool_eq_ite (p := 4 * m > 5 * level + 400) decide_eq_true_iff

end

/-- Settles O48: by the reply, and kind by kind where a STATUS is judged. -/
theorem observationRules : Obligations.ObservationRules := by
  unfold Obligations.ObservationRules
  intro r d
  refine ⟨observe_noReply r d, observe_badFrame r d, fun st hr hs => ?_, fun h k => observe_of_unjudged (judgedStatus_eq_none h)⟩
  have hj := judgedStatus_of_status hr hs
  exact ⟨observe_thermal hj, observe_power hj, observe_door hj, observe_strings hj, observe_echo hj, observe_overbright hj⟩

end Sys2Proof.Machine
end

section
/-! The persistence runs, the asserted set and the ECHO counter (O49). What one observation does to its own kind and leaves of the others
gives what all eight do: `applyObservations_read`. -/

namespace Sys2Proof.Machine

theorem FaultKind.no_injective : Function.Injective FaultKind.no := by
  intro k l
  cases k <;> cases l <;> decide

theorem mem_allKinds (k : FaultKind) : k ∈ allKinds := by cases k <;> decide

theorem allKinds_nodup : allKinds.Nodup := by decide

section
variable (persist : Table Persistence 8)

/-! ### One observation -/

/-- R113: the runs of the kind observed. -/
theorem applyObservation_runs_self (o : Observation) (k : FaultKind) (d : FaceDynamic) :
    (applyObservation persist o k d).runs.get k.no = runsAfter o (d.runs.get k.no) :=
  Table.get_set_self _ _ _

theorem applyObservation_runs_other {k l : FaultKind} (h : k ≠ l) (o : Observation) (d : FaceDynamic) :
    (applyObservation persist o l d).runs.get k.no = d.runs.get k.no :=
  Table.get_set_ne _ (FaultKind.no_injective.ne h) _

/-- R113, R114: whether the kind observed is asserted. -/
theorem kindIn_applyObservation_self (o : Observation) (k : FaultKind) (d : FaceDynamic) :
    kindIn (applyObservation persist o k d).asserted k =
      assertedAfter o (persist.get k.no) (d.runs.get k.no) (kindIn d.asserted k) := by
  unfold applyObservation
  dsimp only
  split
  · rename_i hafter; rw [kindIn_insert, decide_eq_true rfl, Bool.or_true, hafter]
  · rename_i hafter
    rw [kindIn_erase, decide_eq_true rfl, Bool.not_true, Bool.and_false, Bool.eq_false_iff.mpr hafter]

theorem kindIn_applyObservation_other {k l : FaultKind} (h : k ≠ l) (o : Observation) (d : FaceDynamic) :
    kindIn (applyObservation persist o l d).asserted k = kindIn d.asserted k :=
  kindIn_applyObservation_of_notObserved (fun hkl => absurd hkl h) persist d

/-- R124: a present ECHO raises the ECHO counter, which stops at 4,095. -/
theorem applyObservation_live_echo (o : Observation) (d : FaceDynamic) :
    (applyObservation persist o .echo d).live =
      if o = .present then { d.live with echo := min 4095 (d.live.echo + 1) } else d.live := by
  simp only [applyObservation, true_and, bump]

theorem applyObservation_live_other {k : FaultKind} (h : k ≠ .echo) (o : Observation) (d : FaceDynamic) :
    (applyObservation persist o k d).live = d.live :=
  if_neg fun hecho => h hecho.1

/-! ### All eight -/

/-- What the observation of kind `k` changes by the rule `g` and no other observation touches, all eight change by `g`. -/
theorem applyObservations_read {α : Type} {read : FaceDynamic → α} {k : FaultKind} (g : Observation → α → α)
    (hself : ∀ o e, read (applyObservation persist o k e) = g o (read e))
    (hother : ∀ l o e, l ≠ k → read (applyObservation persist o l e) = read e) (r : SlotReport) (d : FaceDynamic) :
    read (applyObservations persist r d) = g (observe r d k) (read d) := by
  have key : ∀ (l : List FaultKind) (e : FaceDynamic), l.Nodup →
      read (l.foldl (fun e k => applyObservation persist (observe r d k) k e) e) =
        if k ∈ l then g (observe r d k) (read e) else read e := by
    intro l
    induction l with
    | nil => intro e _; rfl
    | cons a l ih =>
      intro e hnodup
      obtain ⟨hfresh, hrest⟩ := List.nodup_cons.mp hnodup
      rw [List.foldl_cons, ih _ hrest]
      by_cases ha : a = k
      · subst ha; rw [if_neg hfresh, if_pos List.mem_cons_self, hself]
      · simp only [hother a _ _ ha, List.mem_cons, Ne.symm ha, false_or]
  exact (key allKinds d allKinds_nodup).trans (if_pos (mem_allKinds k))

variable (r : SlotReport) (d : FaceDynamic)

theorem applyObservations_runs (k : FaultKind) :
    (applyObservations persist r d).runs.get k.no = runsAfter (observe r d k) (d.runs.get k.no) :=
  applyObservations_read persist (read := fun e => e.runs.get k.no) runsAfter
    (fun o e => applyObservation_runs_self persist o k e)
    (fun _ o e hl => applyObservation_runs_other persist hl.symm o e) r d

/-- R113, R114: the runs that settle a kind's assertion are those before the slot. -/
theorem kindIn_applyObservations (k : FaultKind) :
    kindIn (applyObservations persist r d).asserted k =
      assertedAfter (observe r d k) (persist.get k.no) (d.runs.get k.no) (kindIn d.asserted k) :=
  congrArg Prod.snd <|
    applyObservations_read persist (read := fun e => (e.runs.get k.no, kindIn e.asserted k))
      (fun o x => (runsAfter o x.1, assertedAfter o (persist.get k.no) x.1 x.2))
      (fun o e => Prod.ext (applyObservation_runs_self persist o k e) (kindIn_applyObservation_self persist o k e))
      (fun _ o e hl =>
        Prod.ext (applyObservation_runs_other persist hl.symm o e) (kindIn_applyObservation_other persist hl.symm o e)) r d

theorem applyObservations_live :
    (applyObservations persist r d).live =
      if observe r d .echo = .present then { d.live with echo := min 4095 (d.live.echo + 1) } else d.live :=
  applyObservations_read persist (k := .echo) (read := FaceDynamic.live)
    (fun o x => if o = .present then { x with echo := min 4095 (x.echo + 1) } else x)
    (applyObservation_live_echo persist) (fun _ o e hl => applyObservation_live_other persist hl o e) r d

/-- R105, steps 1 and 2, change nothing but the runs, the asserted set and the live counters. -/
theorem applyObservations_frame :
    applyObservations persist r d =
      { d with
        runs := (applyObservations persist r d).runs
        asserted := (applyObservations persist r d).asserted
        live := (applyObservations persist r d).live } := by
  have key : ∀ (l : List FaultKind) (e : FaceDynamic),
      ∃ x a c, l.foldl (fun e k => applyObservation persist (observe r d k) k e) e =
        { e with runs := x, asserted := a, live := c } := by
    intro l
    induction l with
    | nil => exact fun e => ⟨e.runs, e.asserted, e.live, rfl⟩
    | cons k l ih =>
      intro e
      obtain ⟨x, a, c, hrest⟩ := ih (applyObservation persist (observe r d k) k e)
      exact ⟨x, a, c, hrest⟩
  obtain ⟨x, a, c, hall⟩ := key allKinds d
  have happlied : applyObservations persist r d = { d with runs := x, asserted := a, live := c } := hall
  rw [happlied]

end

/-! ### The rule of a kind (R113, R114) -/

theorem assertedAfter_present (p : Persistence) (x : Runs) (b : Bool) :
    assertedAfter .present p x b = true ↔ b = true ∨ p.assert ≤ min 15 (x.present + 1) := by
  simp only [assertedAfter, Bool.or_eq_true, decide_eq_true_eq]
  rfl

theorem assertedAfter_absent (p : Persistence) (x : Runs) (b : Bool) :
    assertedAfter .absent p x b = true ↔ b = true ∧ min 15 (x.absent + 1) < p.clear := by
  simp only [assertedAfter, Bool.and_eq_true, Bool.not_eq_true', decide_eq_false_iff_not, Nat.not_le]
  rfl

/-- Settles O49: kind by kind, by the observation made of it. -/
theorem persistenceRules : Obligations.PersistenceRules := by
  unfold Obligations.PersistenceRules
  intro persist r d
  dsimp only
  refine ⟨fun k => ?_, ?_⟩
  · rw [applyObservations_runs, kindIn_applyObservations]
    cases observe r d k with
    | present => exact ⟨rfl, assertedAfter_present _ _ _⟩
    | absent => exact ⟨rfl, assertedAfter_absent _ _ _⟩
    | notObserved => exact ⟨rfl, rfl⟩
  · rw [← applyObservations_live persist]
    exact applyObservations_frame persist r d

end Sys2Proof.Machine
end

section
/-! The delivered level, the stored reports, joins and restarts (O50): what a slot end makes of a face's dynamic part, reply by reply. -/

namespace Sys2Proof.Machine

/-! ### A STATUS (R95, R119) -/

/-- R94: a measurement counts only where the capability reads photometer yes. -/
theorem measurement_stored (st : StatusReply) (d : FaceDynamic) :
    (match usableMeasurement d.capability st with
      | some m => some m
      | none => d.measured) =
      match st.measured, d.capability with
      | some m, some c => if c.photometer then some m else d.measured
      | _, _ => d.measured := by
  unfold usableMeasurement
  rcases d.capability with _ | ⟨width, photometer, strings⟩
  · cases st.measured <;> rfl
  · cases photometer <;> cases st.measured <;> rfl

/-- R95: the stored fields of a STATUS. -/
theorem storeStatus_eq (st : StatusReply) (d : FaceDynamic) :
    storeStatus st d =
      { d with
        shown := some ⟨min st.shown.code st.shown.width.full, st.shown.width⟩
        stringsOut := match st.stringsOut with | some n => some (min n 64) | none => d.stringsOut
        measured := match st.measured, d.capability with
          | some m, some c => if c.photometer then some m else d.measured
          | _, _ => d.measured
        flags := st.flags } :=
  congrArg (fun m => ({ storeStatus st d with measured := m } : FaceDynamic)) (measurement_stored st d)

/-- R119: a STATUS makes the level that a LEVEL frame sent the delivered level. -/
theorem deliver_of_status {r : SlotReport} {st : StatusReply} (hr : r.reply = some (.status st)) (d : FaceDynamic) :
    deliver r d =
      match r.frame with
      | .level _ _ _ => { d with delivered := r.wrote }
      | .hold | .ident => d := by
  unfold deliver
  rw [hr]
  cases r.frame <;> rfl

/-- No other reply, and no MISS, changes the delivered level before step 4 (R105). -/
theorem deliver_of_noStatus {r : SlotReport} (hr : ∀ st, r.reply ≠ some (.status st)) (d : FaceDynamic) : deliver r d = d := by
  unfold deliver
  split
  · rename_i h; exact absurd h (hr _)
  · rfl

theorem faceLife_of_status {r : SlotReport} {st : StatusReply} (hr : r.reply = some (.status st)) (fullScale : Nat)
    (d : FaceDynamic) :
    faceLife fullScale r d = if d.state = .active ∨ d.state = .cutoff then (storeStatus st d, none) else (d, none) := by
  unfold faceLife
  rw [hr]
  cases hs : d.state <;> rfl

/-! ### An IDENTITY (R93, R94, R96, R97) -/

/-- R77: the level taken up from the code that an IDENTITY gives. -/
theorem takeUp_storeIdentity (fullScale : Nat) (x : IdentityReply) (d : FaceDynamic) :
    takeUp fullScale (storeIdentity x d) =
      { storeIdentity x d with
        commanded := some (min 10000 (min x.code x.maxWidth.full * fullScale / x.maxWidth.full)) } := by
  simp only [takeUp, storeIdentity, reverseConvert, min_assoc, min_self]

theorem faceLife_of_identity {r : SlotReport} {x : IdentityReply} (hr : r.reply = some (.identity x)) (fullScale : Nat)
    (d : FaceDynamic) :
    faceLife fullScale r d =
      let known := { storeIdentity x d with delivered := none }
      let level := min 10000 (min x.code x.maxWidth.full * fullScale / x.maxWidth.full)
      match d.state with
      | .joining => ({ known with state := .active, commanded := some level }, some (.active, false))
      | .active => ({ known with commanded := some level }, some (.active, true))
      | .cutoff => (known, some (.cutoff, true))
      | .offline => (d, none) := by
  unfold faceLife
  rw [hr]
  cases d.state with
  | joining | active => simp only [takeUp_storeIdentity]
  | cutoff | offline => rfl

theorem faceLife_of_miss {r : SlotReport} (hr : r.reply = none) (fullScale : Nat) (d : FaceDynamic) :
    faceLife fullScale r d = (d, none) := by
  unfold faceLife
  rw [hr]

/-- Settles O50: by the reply of the slot. -/
theorem faceLife_of_reply : Obligations.FaceLife := by
  unfold Obligations.FaceLife
  intro s r
  dsimp only
  have hmonitored : s.monitored r =
      faceLife (s.faces.get r.face).config.fullScale r (deliver r (applyObservations s.persist r (s.faces.get r.face).dyn)) := rfl
  rw [hmonitored, ← applyObservations_state s.persist r]
  generalize applyObservations s.persist r (s.faces.get r.face).dyn = d
  rcases hr : r.reply with _ | st | x
  · rw [deliver_of_noStatus (by simp [hr]), faceLife_of_miss hr]
  · rw [faceLife_of_status hr, deliver_state, storeStatus_eq, deliver_of_status hr]
    cases r.frame <;> rfl
  · rw [deliver_of_noStatus (by simp [hr]), faceLife_of_identity hr]
    obtain ⟨state⟩ := d
    cases state <;> rfl

end Sys2Proof.Machine
end

section
/-! The Fault Monitor's notices and the entry to CUTOFF (O51). The record and the hazard set are written apart from the notices
(`NoticeFree`), so all of them can be written first and the notices posted after. -/

namespace Sys2Proof

theorem Table.set_set {α : Type} {n : Nat} (t : Table α n) (i : Fin n) (a b : α) : (t.set i a).set i b = t.set i b := by
  refine Table.ext_get fun j => ?_
  by_cases h : j = i
  · subst h; simp
  · simp [h]

namespace Machine

/-- The part with its face records and its hazard set replaced. -/
def State.withHazard (f : Table Face 32) (h : FaceSet) (s : State) : State := { s with faces := f, hazard := h }

theorem withHazard_noticeFree (f : Table Face 32) (h : FaceSet) : NoticeFree (State.withHazard f h) :=
  ⟨fun _ => rfl, fun _ _ _ _ => rfl⟩

/-- The face records once a face has entered CUTOFF (R98). -/
def State.cutFaces (s : State) (i : FaceNo) : Table Face 32 :=
  let d := (s.faces.get i).dyn
  s.faces.set i { s.faces.get i with dyn := { d with
    state := .cutoff, live := { d.live with cutoffs := min 255 (d.live.cutoffs + 1) } } }

/-- R98: the record and the hazard set, then the notice. -/
theorem enterCutoff_eq (s : State) (i : FaceNo) :
    s.enterCutoff i = (s.withHazard (s.cutFaces i) (s.hazard ||| (1#32 <<< i.val))).post (.faceState i .cutoff false) := rfl

/-- Notices posted before an entry to CUTOFF can be posted after its record is written. -/
theorem enterCutoff_postAll (s : State) (l : List NoticeBody) (i : FaceNo) :
    (s.postAll l).enterCutoff i =
      (s.withHazard (s.cutFaces i) (s.hazard ||| (1#32 <<< i.val))).postAll (l ++ [.faceState i .cutoff false]) := by
  obtain ⟨q, c, o, hposted⟩ := postAll_only s l
  have hcut : (s.postAll l).cutFaces i = s.cutFaces i := by rw [hposted]; rfl
  have hhazard : (s.postAll l).hazard = s.hazard := by rw [hposted]
  rw [enterCutoff_eq, hcut, hhazard, postAll_append, (withHazard_noticeFree _ _).postAll]
  rfl

/-- R120: the cutoff test looks at no notice. -/
theorem cutoffTest_postAll (s : State) (l : List NoticeBody) (i : FaceNo) :
    (s.postAll l).cutoffTest i =
      if (s.faces.get i).dyn.state = .active ∧ kindIn (s.faces.get i).dyn.asserted .overbright = true ∧
          (s.mode = .running ∨ s.mode = .halting) then
        (s.withHazard (s.cutFaces i) (s.hazard ||| (1#32 <<< i.val))).postAll (l ++ [.faceState i .cutoff false])
      else s.postAll l := by
  obtain ⟨q, c, o, hposted⟩ := postAll_only s l
  have hfaces : (s.postAll l).faces = s.faces := by rw [hposted]
  have hmode : (s.postAll l).mode = s.mode := by rw [hposted]
  unfold State.cutoffTest
  rw [hfaces, hmode, enterCutoff_postAll]

/-- The notices of a slot end (R105, step 5): a changed asserted set (R118), then a join or restart. -/
def slotNotices (i : FaceNo) (before after : KindSet) (life : Option (FaceState × Bool)) : List NoticeBody :=
  (if after = before then [] else [.faceFault i after]) ++
    match life with
    | none => []
    | some (st, again) => [.faceState i st again]

theorem reportFaults_eq (s : State) (i : FaceNo) (before : KindSet) (d : FaceDynamic) (life : Option (FaceState × Bool)) :
    s.reportFaults i before d life = ((s.setFaceDyn i d).postAll (slotNotices i before d.asserted life)).cutoffTest i := by
  unfold State.reportFaults slotNotices
  rw [postAll_append]
  cases life <;> split <;> rfl

/-- The record that a slot end stores is the one that an entry to CUTOFF changes. -/
theorem cutFaces_setFaceDyn (s : State) (i : FaceNo) (d : FaceDynamic) :
    (s.setFaceDyn i d).cutFaces i =
      s.faces.set i { s.faces.get i with dyn := { d with
        state := .cutoff, live := { d.live with cutoffs := min 255 (d.live.cutoffs + 1) } } } := by
  simp only [State.cutFaces, setFaceDyn_faces, Table.get_set_self, Table.set_set]

/-- Settles O51: the record stored, then the notices and the cutoff test. -/
theorem faultMonitorSteps : Obligations.FaultMonitorSteps := by
  unfold Obligations.FaultMonitorSteps
  intro s r
  dsimp only
  rw [State.faultMonitor, reportFaults_eq, cutoffTest_postAll, cutFaces_setFaceDyn, setFaceDyn_faces, Table.get_set_self]
  rfl

end Machine
end Sys2Proof
end

section
/-! The requests of the authority (O32): CLAIM and RELEASE as one change of the claim records followed by the OWNER notices of the faces
whose owner changes, in ascending order, and AUTH_STATUS. -/

namespace Sys2Proof.Machine

/-! ### Changes of the claim records (R129 to R131) -/

/-- Face `i`'s claim record, which may be absent, replaced by what `g` makes of it; no notice posted. -/
def State.rewriteClaim (g : FaceNo → Option Claim → Option Claim) (i : FaceNo) (s : State) : State :=
  s.setClaim i (g i (s.claims.get i))

theorem rewriteClaim_noticeFree (g : FaceNo → Option Claim → Option Claim) (i : FaceNo) : NoticeFree (State.rewriteClaim g i) :=
  ⟨fun _ => rfl, fun _ _ _ _ => rfl⟩

theorem rewriteClaim_claims_self (g : FaceNo → Option Claim → Option Claim) (i : FaceNo) (s : State) :
    (s.rewriteClaim g i).claims.get i = g i (s.claims.get i) := Table.get_set_self _ _ _

theorem rewriteClaim_claims_other (g : FaceNo → Option Claim → Option Claim) {i j : FaceNo} (h : j ≠ i) (s : State) :
    (s.rewriteClaim g i).claims.get j = s.claims.get j := Table.get_set_ne _ h _

theorem eachFace_rewriteClaim (g : FaceNo → Option Claim → Option Claim) (s : State) :
    s.eachFace (State.rewriteClaim g) = { s with claims := s.claims.mapNo g } := by
  obtain ⟨table, htable⟩ : ∃ table, s.eachFace (State.rewriteClaim g) = { s with claims := table } := by
    refine eachFace_keeps (P := fun t => ∃ table, t = { s with claims := table }) ?_ s ⟨s.claims, rfl⟩
    rintro i t ⟨table, rfl⟩
    exact ⟨_, rfl⟩
  have hread := eachFace_read (fun t i => t.claims.get i) g (rewriteClaim_claims_self g)
    (fun i j t hj => rewriteClaim_claims_other g hj t) s
  rw [htable] at hread ⊢
  congr 1
  exact Table.ext_get fun i => by rw [Table.get_mapNo]; exact hread i

/-- The notice `body i` of a face whose change of owner `turns` tells from its record. -/
def State.turnNotices (turns : FaceNo → Option Claim → Bool) (body : FaceNo → NoticeBody) (s : State) (i : FaceNo) :
    List NoticeBody := if turns i (s.claims.get i) then [body i] else []

/-- R130: claim records changed face by face, each change of owner followed by its notice, are one change of the table followed by
the notices in ascending order of face number. -/
theorem eachFace_claims {g : FaceNo → Option Claim → Option Claim} {turns : FaceNo → Option Claim → Bool}
    {body : FaceNo → NoticeBody} {f : FaceNo → State → State}
    (h : ∀ i t, f i t = (t.rewriteClaim g i).postAll (t.turnNotices turns body i)) (s : State) :
    s.eachFace f =
      State.postAll { s with claims := s.claims.mapNo g } ((allFaces.filter (fun i => turns i (s.claims.get i))).map body) := by
  have hposted : ∀ t l i, State.turnNotices turns body (State.postAll t l) i = State.turnNotices turns body t i := by
    intro t l i
    obtain ⟨q, c, o, e⟩ := postAll_only t l
    rw [e]; rfl
  have hothers : ∀ t i j, i ≠ j →
      State.turnNotices turns body (State.rewriteClaim g j t) i = State.turnNotices turns body t i := by
    intro t i j hne
    rw [State.turnNotices, rewriteClaim_claims_other g hne]; rfl
  have hrecords := eachFace_rewriteClaim g s
  unfold State.eachFace at hrecords ⊢
  simp only [h]
  rw [foldl_notices_last (rewriteClaim_noticeFree g) hposted hothers _ allFaces_nodup, hrecords]
  unfold State.turnNotices
  rw [flatMap_ite]

/-- R129, R130: CLAIM's part in a face: the record of a member is written, and a member that had none gets a new owner. -/
theorem claimFace_eq (m : FaceSet) (c : Claim) (i : FaceNo) (s : State) :
    State.claimFace m c i s =
      (s.rewriteClaim (fun i x => if faceIn m i then some c else x) i).postAll
        (s.turnNotices (fun i x => faceIn m i && x.isNone) (fun i => .owner i .authority false) i) := by
  unfold State.claimFace State.rewriteClaim State.turnNotices
  by_cases hmember : faceIn m i = true
  · cases s.claims.get i <;> simp [hmember, postAll_cons]
  · simp [hmember, State.setClaim]

/-- R131: RELEASE's part in a face: a member has no record left, and one that had a record gets its owner back. -/
theorem releaseFace_eq (m : FaceSet) (i : FaceNo) (s : State) :
    State.releaseFace m i s =
      (s.rewriteClaim (fun i x => if faceIn m i then none else x) i).postAll
        (s.turnNotices (fun i x => faceIn m i && x.isSome) (fun i => .owner i .operator false) i) := by
  unfold State.releaseFace State.rewriteClaim State.turnNotices
  by_cases hmember : faceIn m i = true
  · cases hclaim : s.claims.get i with
    | none =>
      have hkept : s.claims.set i none = s.claims := by rw [← hclaim, Table.set_get_self]
      simp [hmember, State.setClaim, hkept]
    | some c => simp [hmember, postAll_cons]
  · simp [hmember, State.setClaim]

/-- The part once CLAIM has written the record `c` on the faces of the set `m` (R129, R130). -/
def State.claimedOn (s : State) (m : FaceSet) (c : Claim) : State :=
  State.postAll { s with claims := s.claims.mapNo (fun i x => if faceIn m i then some c else x) }
    ((allFaces.filter (fun i => faceIn m i && (s.claims.get i).isNone)).map (fun i => .owner i .authority false))

theorem eachFace_claimFace (m : FaceSet) (c : Claim) (s : State) : s.eachFace (State.claimFace m c) = s.claimedOn m c :=
  eachFace_claims (claimFace_eq m c) s

/-- The part once RELEASE has removed the records of the faces of the set `m` (R130, R131). -/
def State.releasedOn (s : State) (m : FaceSet) : State :=
  State.postAll { s with claims := s.claims.mapNo (fun i x => if faceIn m i then none else x) }
    ((allFaces.filter (fun i => faceIn m i && (s.claims.get i).isSome)).map (fun i => .owner i .operator false))

theorem eachFace_releaseFace (m : FaceSet) (s : State) : s.eachFace (State.releaseFace m) = s.releasedOn m :=
  eachFace_claims (releaseFace_eq m) s

/-! ### CLAIM (R129) -/

/-- R128: the two modes of a claim. -/
theorem readClaimMode_cases (code : Byte) (level : Nat) :
    code = 0#8 ∧ readClaimMode code level = some .blank ∨
      code = 1#8 ∧ readClaimMode code level = some (.cap (clamp 0 10000 level)) ∨
      (code ≠ 0#8 ∧ code ≠ 1#8) ∧ readClaimMode code level = none := by
  have hnat : ∀ v : Byte, code.toNat = v.toNat ↔ code = v := fun v => BitVec.toNat_inj
  unfold readClaimMode
  split
  · rename_i h; exact .inl ⟨(hnat 0#8).mp h, rfl⟩
  · rename_i h; exact .inr (.inl ⟨(hnat 1#8).mp h, rfl⟩)
  · rename_i h0 h1
    exact .inr (.inr ⟨⟨fun h => h0 ((hnat 0#8).mpr h), fun h => h1 ((hnat 1#8).mpr h)⟩, rfl⟩)

/-- What CLAIM answers: the folded set, and the record as stored. -/
def claimData (m : FaceSet) (c : Claim) : List Byte :=
  setBytes m ++ [c.mode.code] ++ maybeBytes 2 c.mode.level ++ fieldBytes 3 c.remaining

theorem claimData_eq (m : FaceSet) (c : Claim) : byteFaceSet m ++ byteClaim c = claimData m c := by
  simp only [claimData, byteFaceSet_eq, byteClaim_eq, List.append_assoc]

theorem claimClamped_blank (level hold : Nat) : claimClamped .blank level hold = decide (1440 < hold) := by
  rw [← clamp_zero_ne]; rfl

theorem claimClamped_cap (level hold : Nat) :
    claimClamped (.cap (clamp 0 10000 level)) level hold = (decide (10000 < level) || decide (1440 < hold)) := by
  rw [← clamp_zero_ne, ← clamp_zero_ne]; rfl

/-- R129: a CLAIM whose mode code reads. -/
theorem judgeClaim_of_mode {code hi lo : Byte} {mode : ClaimMode} (h : readClaimMode code (word2 hi lo) = some mode)
    (a b c d hh hl : Byte) (s : State) :
    judgeClaim [a, b, c, d, code, hi, lo, hh, hl] s =
      let m := s.folded (mask4 a b c d)
      let record : Claim := ⟨mode, 60 * min (word2 hh hl) 1440⟩
      (.done (claimClamped mode (word2 hi lo) (word2 hh hl)) (claimData m record), s.claimedOn m record) := by
  simp only [judgeClaim, readBytes_two, h, readFaceSet_eq, foldSet_eq_folded, claimData_eq, eachFace_claimFace, maxHold,
    clamp_zero]

theorem judgeClaim_of_noMode {code hi lo : Byte} (h : readClaimMode code (word2 hi lo) = none) (a b c d hh hl : Byte)
    (s : State) : judgeClaim [a, b, c, d, code, hi, lo, hh, hl] s = (.refused .badValue, s) := by
  simp only [judgeClaim, readBytes_two, h, refuse]

theorem judgeClaim_badLength {payload : List Byte}
    (h : ∀ a b c d code hi lo hh hl, payload ≠ [a, b, c, d, code, hi, lo, hh, hl]) (s : State) :
    judgeClaim payload s = (.refused .badLength, s) := by
  unfold judgeClaim
  split
  · exact absurd rfl (h _ _ _ _ _ _ _ _ _)
  · rfl

/-- R129: CLAIM by its mode code. -/
theorem exec_claim_nine {s : State} (h : s.takes .authority) (tag a b c d code hi lo hh hl : Byte) :
    exec (.claim tag [a, b, c, d, code, hi, lo, hh, hl]) s = .next (
      let m := s.folded (mask4 a b c d)
      let done (mode : ClaimMode) (clamped : Bool) : State :=
        (s.claimedOn m ⟨mode, 60 * min (word2 hh hl) 1440⟩).answered .claim tag
          (.done (clamped || decide (1440 < word2 hh hl)) (claimData m ⟨mode, 60 * min (word2 hh hl) 1440⟩))
      if code = 0#8 then done .blank false
      else if code = 1#8 then done (.cap (min (word2 hi lo) 10000)) (decide (10000 < word2 hi lo))
      else s.answered .claim tag (.refused .badValue)) := by
  have htake : ∀ {x : Answer} {t : State}, judgeClaim [a, b, c, d, code, hi, lo, hh, hl] s = (x, t) →
      exec (.claim tag [a, b, c, d, code, hi, lo, hh, hl]) s = .next (t.answered .claim tag x) :=
    fun {_ _} hj => exec_taken (r := ⟨.claim, tag, [a, b, c, d, code, hi, lo, hh, hl]⟩) rfl h hj
  dsimp only
  rcases readClaimMode_cases code (word2 hi lo) with ⟨rfl, hread⟩ | ⟨rfl, hread⟩ | ⟨⟨hnotBlank, hnotCap⟩, hread⟩
  · rw [if_pos rfl, Bool.false_or, ← claimClamped_blank (word2 hi lo)]
    exact htake (judgeClaim_of_mode hread a b c d hh hl s)
  · rw [if_neg (by decide), if_pos rfl, ← claimClamped_cap, ← clamp_zero]
    exact htake (judgeClaim_of_mode hread a b c d hh hl s)
  · rw [if_neg hnotBlank, if_neg hnotCap]
    exact htake (judgeClaim_of_noMode hread a b c d hh hl s)

/-! ### RELEASE and AUTH_STATUS (R131, R139) -/

theorem judgeRelease_four (a b c d : Byte) (s : State) :
    judgeRelease [a, b, c, d] s =
      (.done false (setBytes (s.folded (mask4 a b c d) &&& s.claimed)), s.releasedOn (s.folded (mask4 a b c d))) := by
  simp only [judgeRelease, readFaceSet_eq, foldSet_eq_folded, byteFaceSet_eq, claimedSet_eq, eachFace_releaseFace]

theorem judgeRelease_badLength {payload : List Byte} (h : ∀ a b c d, payload ≠ [a, b, c, d]) (s : State) :
    judgeRelease payload s = (.refused .badLength, s) := by
  unfold judgeRelease
  split
  · exact absurd rfl (h _ _ _ _)
  · rfl

theorem bytes1_mode (m : Mode) : bytes1 m.no = [m.code] := by cases m <;> rfl

theorem bytes1_resetCause (c : ResetCause) : bytes1 c.no = [c.code] := by cases c <;> rfl

theorem authorityStatusData_eq (s : State) :
    s.authorityStatusData =
      [s.mode.code, s.lastCause.code, flagByte s.restarted] ++ setBytes s.hazard ++ setBytes s.lapsed ++ setBytes s.claimed := by
  simp only [State.authorityStatusData, bytes1_mode, bytes1_resetCause, byteFlag_eq, byteFaceSet_eq, claimedSet_eq,
    List.cons_append, List.nil_append]

theorem judgeAuthStatus_badLength {payload : List Byte} (h : payload ≠ []) (s : State) :
    judgeAuthStatus payload s = (.refused .badLength, s) := by
  unfold judgeAuthStatus
  split
  · exact absurd rfl h
  · rfl

/-- Settles O32: by the length of the payload, CLAIM then by its mode code. -/
theorem authorityRequests : Obligations.AuthorityRequests := by
  unfold Obligations.AuthorityRequests
  intro tag payload s h
  refine ⟨?_, ?_, ?_⟩
  · split
    · exact exec_claim_nine h _ _ _ _ _ _ _ _ _ _
    · rename_i hlen; exact exec_taken (r := ⟨.claim, tag, _⟩) rfl h (judgeClaim_badLength hlen s)
  · split
    · exact exec_taken (r := ⟨.release, tag, _⟩) rfl h (judgeRelease_four _ _ _ _ s)
    · rename_i hlen; exact exec_taken (r := ⟨.release, tag, _⟩) rfl h (judgeRelease_badLength hlen s)
  · split
    · rename_i hempty
      subst hempty
      rw [← authorityStatusData_eq]
      exact exec_taken (r := ⟨.authStatus, tag, []⟩) rfl h rfl
    · rename_i hlen; exact exec_taken (r := ⟨.authStatus, tag, _⟩) rfl h (judgeAuthStatus_badLength hlen s)

end Sys2Proof.Machine
end

section
/-! The requests on the Counter Bank and the Notice Queue (O31): SNAPSHOT and SET_AUTOSNAP, FETCH and CHANGES. -/

namespace Sys2Proof.Machine

/-! ### Reply data (R172) -/

/-- R172: a notice entry, by its kind. -/
theorem byteNotice_eq (n : Notice) : byteNotice n = n.layout := by
  obtain ⟨body, stamp⟩ := n
  rw [byteNotice, bytes2_eq, Notice.layout]
  congr 1
  cases body with
  | restart cause => cases cause <;> rfl
  | mode m => cases m <;> rfl
  | faceState f st r => cases st <;> rfl
  | owner f o l => cases o <;> rfl
  | sensor k h => cases h <;> rfl
  | zone z src d => cases src <;> rfl
  | faceFault | overrun | snapshot => rfl

theorem changesMark_eq (s : State) : s.changesMark = decide (s.changeSet ≠ 0#32 ∨ s.otherLost = true) := by
  rw [Bool.decide_or, Bool.decide_eq_true, State.changesMark, bne, decide_not, beq_eq_decide]

theorem fetchData_eq (s : State) :
    s.fetchData =
      (s.queue.take 4).flatMap Notice.layout ++ fieldBytes 1 (s.queue.length - 4)
        ++ [flagByte (decide (s.changeSet ≠ 0#32 ∨ s.otherLost = true))] := by
  rw [State.fetchData, funext byteNotice_eq, bytes1_eq, byteFlag_eq, changesMark_eq, List.length_drop]
  rfl

theorem autosnapData_eq (s : State) : s.autosnapData = [flagByte s.autosnap] ++ fieldBytes 1 s.autoCount := by
  rw [State.autosnapData, byteFlag_eq, bytes1_eq]

/-! ### SNAPSHOT and SET_AUTOSNAP (R143, R144, R146) -/

theorem takeSnapshot_eq (s : State) : s.takeSnapshot = s.snapshotted := rfl

theorem readOnOff_flagByte (on : Bool) : readOnOff (flagByte on).toNat = some on := by cases on <;> rfl

/-- R172: the two bytes of a setting of two values. -/
theorem eq_flagByte_iff (a : Byte) : (∃ on, a = flagByte on) ↔ a = 0#8 ∨ a = 1#8 := by
  simp [flagByte]

theorem decide_flagByte (on : Bool) : decide (flagByte on = 1#8) = on := by cases on <;> rfl

/-- R172: no other byte is a setting. -/
theorem readOnOff_of_noSetting {a : Byte} (h : ¬(a = 0#8 ∨ a = 1#8)) : readOnOff a.toNat = none := by
  obtain ⟨hoff, hon⟩ := not_or.mp h
  unfold readOnOff
  split
  · rename_i hread; exact absurd (BitVec.eq_of_toNat_eq hread) hoff
  · rename_i hread; exact absurd (BitVec.eq_of_toNat_eq hread) hon
  · rfl

/-- R146: the count is reported as it stands where the setting stays, and as 0 where it changes. -/
theorem judgeSetAutosnap_flagByte (on : Bool) (s : State) :
    judgeSetAutosnap [flagByte on] s =
      if on = s.autosnap then (.done false s.autosnapData, s)
      else (.done false [flagByte on, 0#8], { s with autosnap := on, autoCount := 0 }) := by
  simp only [judgeSetAutosnap, readOnOff_flagByte, State.setAutosnap]
  split <;> rfl

theorem judgeSetAutosnap_of_noSetting {a : Byte} (h : ¬(a = 0#8 ∨ a = 1#8)) (s : State) :
    judgeSetAutosnap [a] s = (.refused .badValue, s) := by
  simp only [judgeSetAutosnap, readOnOff_of_noSetting h, refuse]

/-- R146: SET_AUTOSNAP with a byte that sets. -/
theorem exec_setAutosnap_flagByte {s : State} (h : s.takes .control) (tag : Byte) (on : Bool) :
    exec (.setAutosnap tag [flagByte on]) s = .next (
      if on = s.autosnap then s.answered .setAutosnap tag (.done false s.autosnapData)
      else State.answered { s with autosnap := on, autoCount := 0 } .setAutosnap tag (.done false [flagByte on, 0#8])) := by
  have hjudged := judgeSetAutosnap_flagByte on s
  split
  · rename_i hsame; exact exec_taken (r := ⟨.setAutosnap, tag, _⟩) rfl h (hjudged.trans (if_pos hsame))
  · rename_i hchange; exact exec_taken (r := ⟨.setAutosnap, tag, _⟩) rfl h (hjudged.trans (if_neg hchange))

/-- Settles O31: by the length of the payload, SET_AUTOSNAP then by its byte. -/
theorem reportRequests : Obligations.ReportRequests := by
  unfold Obligations.ReportRequests
  intro tag payload s h
  refine ⟨?_, ?_, ?_, ?_⟩
  · rcases payload with _ | ⟨a, rest⟩
    · rw [if_pos rfl, ← bytes2_eq, ← takeSnapshot_eq]
      exact exec_taken (r := ⟨.snapshot, tag, []⟩) rfl h rfl
    · exact exec_taken (r := ⟨.snapshot, tag, a :: rest⟩) rfl h rfl
  · rw [← autosnapData_eq]
    rcases payload with _ | ⟨a, _ | ⟨b, rest⟩⟩
    · exact exec_taken (r := ⟨.setAutosnap, tag, []⟩) rfl h rfl
    · dsimp only
      split
      · rename_i hsetting
        obtain ⟨on, rfl⟩ := (eq_flagByte_iff a).mpr hsetting
        rw [decide_flagByte]
        exact exec_setAutosnap_flagByte h tag on
      · rename_i hno
        exact exec_taken (r := ⟨.setAutosnap, tag, [a]⟩) rfl h (judgeSetAutosnap_of_noSetting hno s)
    · exact exec_taken (r := ⟨.setAutosnap, tag, a :: b :: rest⟩) rfl h rfl
  · rw [← fetchData_eq]
    rcases payload with _ | ⟨a, rest⟩
    · exact exec_taken (r := ⟨.fetch, tag, []⟩) rfl h rfl
    · exact exec_taken (r := ⟨.fetch, tag, a :: rest⟩) rfl h rfl
  · rcases payload with _ | ⟨a, rest⟩
    · rw [if_pos rfl, ← byteFaceSet_eq]
      exact exec_taken (r := ⟨.changes, tag, []⟩) rfl h rfl
    · exact exec_taken (r := ⟨.changes, tag, a :: rest⟩) rfl h rfl

end Sys2Proof.Machine
end

section
/-! Counters, counts, runs and settings under every step (O58). `InRange` gathers what `CountInv` and `SettingInv` say, part by part:
the face records, the ports' error counts, the other counts, the settings of time and of the chain, the zones' configurations and the
persistence pairs. Most commands leave most of them alone. -/

namespace Sys2Proof.Machine

/-! ### Counters and runs (R113, R142) -/

theorem bump_le (maximum v : Nat) : bump maximum v ≤ maximum := Nat.min_le_left _ _

theorem countersInv_zero : CountersInv Counters.zero := by decide

theorem CountersInv.missMore {c : Counters} (h : CountersInv c) : CountersInv { c with missed := bump 65535 c.missed } := by
  obtain ⟨_, hcorrupt, hecho, hcutoffs⟩ := h
  exact ⟨bump_le _ _, hcorrupt, hecho, hcutoffs⟩

theorem CountersInv.corruptMore {c : Counters} (h : CountersInv c) : CountersInv { c with corrupt := bump 4095 c.corrupt } := by
  obtain ⟨hmissed, _, hecho, hcutoffs⟩ := h
  exact ⟨hmissed, bump_le _ _, hecho, hcutoffs⟩

theorem CountersInv.echoMore {c : Counters} (h : CountersInv c) : CountersInv { c with echo := bump 4095 c.echo } := by
  obtain ⟨hmissed, hcorrupt, _, hcutoffs⟩ := h
  exact ⟨hmissed, hcorrupt, bump_le _ _, hcutoffs⟩

theorem CountersInv.cutOffMore {c : Counters} (h : CountersInv c) : CountersInv { c with cutoffs := bump 255 c.cutoffs } := by
  obtain ⟨hmissed, hcorrupt, hecho, _⟩ := h
  exact ⟨hmissed, hcorrupt, hecho, bump_le _ _⟩

/-- R113: a kind's runs stay within 15, and one of them is 0. -/
abbrev RunsInRange (r : Runs) : Prop := r.present ≤ 15 ∧ r.absent ≤ 15 ∧ (r.present = 0 ∨ r.absent = 0)

/-- R113: an observation lengthens one run and ends the other. -/
theorem runsAfter_inRange {r : Runs} (h : RunsInRange r) (o : Observation) : RunsInRange (runsAfter o r) := by
  cases o with
  | present => exact ⟨bump_le _ _, Nat.zero_le _, .inr rfl⟩
  | absent => exact ⟨Nat.zero_le _, bump_le _ _, .inl rfl⟩
  | notObserved => exact h

/-! ### A face's record -/

/-- What `CountInv` says of one face's dynamic part. -/
abbrev DynInRange (d : FaceDynamic) : Prop := CountersInv d.live ∧ ∀ k, RunsInRange (d.runs.get k)

/-- What `CountInv` and `SettingInv` say of one face. -/
abbrev FaceInRange (f : Face) : Prop := DynInRange f.dyn ∧ CountersInv f.snap ∧ FaceConfigInv f.config

theorem DynInRange.withLive {d : FaceDynamic} (h : DynInRange d) {c : Counters} (hc : CountersInv c) :
    DynInRange { d with live := c } := by
  obtain ⟨_, hruns⟩ := h
  exact ⟨hc, hruns⟩

/-- R87: nothing is counted after a reset or after going OFFLINE. -/
theorem dynInRange_cleared (x : FaceState) : DynInRange (FaceDynamic.cleared x) := by
  refine ⟨countersInv_zero, fun k => ?_⟩
  rw [FaceDynamic.cleared, Table.get_replicate]
  decide

theorem DynInRange.applyObservations {d : FaceDynamic} (h : DynInRange d) (persist : Table Persistence 8) (r : SlotReport) :
    DynInRange (applyObservations persist r d) := by
  obtain ⟨hlive, hruns⟩ := h
  refine ⟨?_, fun n => ?_⟩
  · rw [applyObservations_live]
    split
    · exact hlive.echoMore
    · exact hlive
  · rw [← allKinds_getElem_no n, applyObservations_runs]
    exact runsAfter_inRange (hruns _) _

theorem DynInRange.deliver {d : FaceDynamic} (h : DynInRange d) (r : SlotReport) : DynInRange (deliver r d) := by
  unfold Machine.deliver
  split <;> exact h

theorem DynInRange.takeUp {d : FaceDynamic} (h : DynInRange d) (fullScale : Nat) : DynInRange (takeUp fullScale d) := by
  unfold Machine.takeUp
  split <;> exact h

/-- R105, step 4, writes neither counters nor runs. -/
theorem DynInRange.faceLife {d : FaceDynamic} (h : DynInRange d) (fullScale : Nat) (r : SlotReport) :
    DynInRange (faceLife fullScale r d).1 := by
  have htaken : ∀ x, DynInRange (Machine.takeUp fullScale (storeIdentity x d)) :=
    fun x => DynInRange.takeUp (d := storeIdentity x d) h fullScale
  unfold Machine.faceLife
  split
  · rename_i x _ _; exact htaken x
  · rename_i x _ _; exact htaken x
  · exact h
  · exact h
  · exact h
  · exact h

/-! ### Settings stored (R38, R86, R115) -/

/-- A field stored stays in its range: it is clamped when present and keeps its value when absent. -/
theorem storeField_inRange {lo hi old : Nat} (hr : lo ≤ hi) (h : lo ≤ old ∧ old ≤ hi) (f : Option Nat) :
    lo ≤ storeField lo hi old f ∧ storeField lo hi old f ≤ hi := by
  cases f with
  | none => exact h
  | some v => exact ⟨le_clamp lo hi v, clamp_le lo hi v hr⟩

/-- A field whose range starts at 0. -/
theorem storeField_le {hi old : Nat} (h : old ≤ hi) (f : Option Nat) : storeField 0 hi old f ≤ hi :=
  (storeField_inRange (Nat.zero_le hi) ⟨Nat.zero_le old, h⟩ f).2

theorem zoneStore_inv {c : ZoneConfig} (h : ZoneConfigInv c) (f : ZoneFields) : ZoneConfigInv (f.store c) := by
  obtain ⟨hfallback, hrising, hfalling, hcap, hcurfew, hextension, hdmax⟩ := h
  exact ⟨storeField_le hfallback _, storeField_inRange (by decide) hrising _, storeField_inRange (by decide) hfalling _,
    storeField_le hcap _, storeField_le hcurfew _, storeField_le hextension _, storeField_le hdmax _⟩

theorem faceStore_inv {c : FaceConfig} (h : FaceConfigInv c) (f : FaceFields) : FaceConfigInv (f.store c) := by
  obtain ⟨htrim, hcap, hscale, hup, hdown, hlevel⟩ := h
  exact ⟨storeField_inRange (by decide) htrim _, storeField_le hcap _, storeField_inRange (by decide) hscale _,
    storeField_inRange (by decide) hup _, storeField_inRange (by decide) hdown _, hlevel⟩

theorem faceConfigInv_cold : FaceConfigInv FaceConfig.cold := by decide

theorem zoneConfigInv_cold (w : Width) : ZoneConfigInv (ZoneConfig.cold w) := by cases w <;> decide

/-- R115: a kind's pair of persistence settings. -/
abbrev PersistenceInv (p : Persistence) : Prop := (1 ≤ p.assert ∧ p.assert ≤ 15) ∧ (1 ≤ p.clear ∧ p.clear ≤ 15)

theorem persistenceStore_inv {p : Persistence} (h : PersistenceInv p) (a c : Option Nat) : PersistenceInv (p.store a c) := by
  obtain ⟨hassert, hclear⟩ := h
  exact ⟨storeField_inRange (by decide) hassert a, storeField_inRange (by decide) hclear c⟩

theorem persistenceInv_cold (k : Fin 8) : PersistenceInv (Persistence.cold.get k) := by revert k; decide

/-- R1: the period stored is a multiple of 10 in its range. -/
theorem periodOf_inRange (v : Nat) : 50 ≤ periodOf v ∧ periodOf v ≤ 2000 ∧ periodOf v % 10 = 0 := by
  rw [periodOf_eq]; omega

/-- R27: the scan period stored is a multiple of 50 in its range. -/
theorem scanPeriodOf_inRange (v : Nat) : 100 ≤ scanPeriodOf v ∧ scanPeriodOf v ≤ 1000 ∧ scanPeriodOf v % 50 = 0 := by
  rw [scanPeriodOf_eq]; omega

/-! ### The state -/

/-- What `CountInv` says of the ports. -/
abbrev ErrorsInRange (s : State) : Prop := s.control.errors ≤ 255 ∧ s.authority.errors ≤ 255

/-- What `CountInv` says of the Counter Bank and the Notice Queue. -/
abbrev CountsInRange (s : State) : Prop :=
  s.retriesSent ≤ 65535 ∧ s.overruns ≤ 65535 ∧ s.snapRetries ≤ 65535 ∧ s.autoCount ≤ 59 ∧ s.holdoff ≤ 15 ∧ s.holdoffCount ≤ 15

/-- What `SettingInv` says of the settings of time and of the chain. -/
abbrev TimesInRange (s : State) : Prop :=
  (50 ≤ s.period ∧ s.period ≤ 2000 ∧ s.period % 10 = 0) ∧ (100 ≤ s.scanPeriod ∧ s.scanPeriod ≤ 1000 ∧ s.scanPeriod % 50 = 0) ∧
    s.retries ≤ 2 ∧ s.curfewStart ≤ 86399 ∧ s.curfewEnd ≤ 86399 ∧ ∀ t ∈ s.dayClock, t ≤ 86399

/-- Everything that `CountInv` and `SettingInv` say. -/
abbrev InRange (s : State) : Prop :=
  (∀ i, FaceInRange (s.faces.get i)) ∧ ErrorsInRange s ∧ CountsInRange s ∧ TimesInRange s ∧
    (∀ n, ZoneConfigInv (s.zones.get n).config) ∧ ∀ k, PersistenceInv (s.persist.get k)

theorem InRange.countInv {s : State} (h : InRange s) : CountInv s := by
  obtain ⟨hfaces, ⟨hcontrol, hauthority⟩, ⟨hsent, hover, hsnap, hauto, hholdoff, hcount⟩, _⟩ := h
  refine ⟨fun i => ?_, hsent, hover, hsnap, hauto, hholdoff, hcount, hcontrol, hauthority⟩
  obtain ⟨⟨hlive, hruns⟩, hsnapped, _⟩ := hfaces i
  exact ⟨hlive, hsnapped, hruns⟩

theorem InRange.settingInv {s : State} (h : InRange s) : SettingInv s := by
  obtain ⟨hfaces, _, _, ⟨hperiod, hscan, hretries, hstart, hend, hclock⟩, hzones, hpersist⟩ := h
  refine ⟨hperiod, hscan, hretries, hstart, hend, hclock, hzones, fun i => ?_, hpersist⟩
  obtain ⟨_, _, hconfig⟩ := hfaces i
  exact hconfig

theorem CountInv.inRange {s : State} (h : CountInv s) (hs : SettingInv s) : InRange s := by
  obtain ⟨hfaces, hsent, hover, hsnap, hauto, hholdoff, hcount, hcontrol, hauthority⟩ := h
  obtain ⟨hperiod, hscan, hretries, hstart, hend, hclock, hzones, hconfig, hpersist⟩ := hs
  refine ⟨fun i => ?_, ⟨hcontrol, hauthority⟩, ⟨hsent, hover, hsnap, hauto, hholdoff, hcount⟩,
    ⟨hperiod, hscan, hretries, hstart, hend, hclock⟩, hzones, hpersist⟩
  obtain ⟨hlive, hsnapped, hruns⟩ := hfaces i
  exact ⟨⟨hlive, hruns⟩, hsnapped, hconfig i⟩

theorem InRange.face {s : State} (h : InRange s) (i : FaceNo) : FaceInRange (s.faces.get i) := h.1 i

theorem InRange.dyn {s : State} (h : InRange s) (i : FaceNo) : DynInRange (s.faces.get i).dyn := (h.face i).1

theorem InRange.config {s : State} (h : InRange s) (i : FaceNo) : FaceConfigInv (s.faces.get i).config := by
  obtain ⟨_, _, hconfig⟩ := h.face i
  exact hconfig

theorem InRange.errors {s : State} (h : InRange s) (l : Link) : (s.port l).errors ≤ 255 := by
  obtain ⟨_, ⟨hcontrol, hauthority⟩, _⟩ := h
  cases l with
  | control => exact hcontrol
  | authority => exact hauthority

/-- A change of face records alone, and of what is not counted or set. -/
theorem InRange.setFace {s : State} {i : FaceNo} {f : Face} (h : InRange s) (hf : FaceInRange f) : InRange (s.setFace i f) := by
  obtain ⟨hfaces, hrest⟩ := h
  refine ⟨fun j => ?_, hrest⟩
  rw [setFace_faces, Table.get_set]
  split
  · exact hf
  · exact hfaces j

theorem InRange.setFaceDyn {s : State} {i : FaceNo} {d : FaceDynamic} (h : InRange s) (hd : DynInRange d) :
    InRange (s.setFaceDyn i d) := by
  obtain ⟨_, hsnap, hconfig⟩ := h.face i
  exact h.setFace ⟨hd, hsnap, hconfig⟩

theorem InRange.setFaceConfig {s : State} {i : FaceNo} {c : FaceConfig} (h : InRange s) (hc : FaceConfigInv c) :
    InRange (s.setFaceConfig i c) := by
  obtain ⟨hdyn, hsnap, _⟩ := h.face i
  exact h.setFace ⟨hdyn, hsnap, hc⟩

theorem InRange.setPort {s : State} (h : InRange s) (l : Link) {p : Port} (hp : p.errors ≤ 255) : InRange (s.setPort l p) := by
  obtain ⟨hfaces, ⟨hcontrol, hauthority⟩, hrest⟩ := h
  cases l with
  | control => exact ⟨hfaces, ⟨hp, hauthority⟩, hrest⟩
  | authority => exact ⟨hfaces, ⟨hcontrol, hp⟩, hrest⟩

theorem OnlyNotices.inRange {s t : State} (e : OnlyNotices s t) (h : InRange s) : InRange t := by
  obtain ⟨_, _, _, rfl⟩ := e; exact h

theorem InRange.post {s : State} (h : InRange s) (b : NoticeBody) : InRange (s.post b) := (post_only s b).inRange h

theorem InRange.enterCutoff {s : State} (h : InRange s) (i : FaceNo) : InRange (s.enterCutoff i) := by
  have hdyn := h.dyn i
  unfold State.enterCutoff
  refine InRange.post ?_ _
  exact h.setFaceDyn (i := i) (d := { (s.faces.get i).dyn with state := .cutoff, live := _ })
    (hdyn.withLive hdyn.1.cutOffMore)

theorem InRange.goOffline {s : State} (h : InRange s) (i : FaceNo) : InRange (s.goOffline i) :=
  h.setFaceDyn (dynInRange_cleared .offline)

/-! ### Slot starts and cycle starts -/

/-- A slot start writes levels and steps only. -/
theorem InRange.levelStarted {s : State} (h : InRange s) (served : List FaceNo) (i : FaceNo) (todo : List FaceNo)
    (code wrote step : Nat) : InRange (s.levelStarted served i todo code wrote step) :=
  h.setFaceDyn (i := i) (d := { (s.faces.get i).dyn with commanded := some wrote, patternStep := step }) (h.dyn i)

theorem InRange.slotStart {s : State} (h : InRange s) (served : List FaceNo) (i : FaceNo) (todo : List FaceNo) :
    InRange (s.slotStart served i todo) := by
  cases hchoice : s.frameChoice i with
  | ident => rw [slotStart_of_ident hchoice]; exact h
  | hold => rw [slotStart_of_hold hchoice]; exact h
  | dark => rw [slotStart_of_dark hchoice]; exact h.levelStarted _ _ _ _ _ _
  | engine => rw [slotStart_of_engine hchoice]; exact h.levelStarted _ _ _ _ _ _

theorem InRange.changeMode {s : State} (h : InRange s) (m : Mode) : InRange (s.changeMode m) :=
  (changeMode_only s m).inRange h

theorem InRange.completeHalt {s : State} (h : InRange s) : InRange s.completeHalt := (completeHalt_spec s).inRange h

theorem InRange.latchFace {s : State} (h : InRange s) (i : FaceNo) : InRange (State.latchFace i s) := by
  unfold State.latchFace
  dsimp only
  split
  · split
    · split
      · exact (h.setFaceDyn (d := { (s.faces.get i).dyn with state := .joining }) (h.dyn i)).post _
      · exact h
    · split
      · exact h
      · exact h.goOffline i
  · exact h

theorem InRange.latchCycle {s : State} (h : InRange s) : InRange s.latchCycle := by
  unfold State.latchCycle State.latchEnables
  exact eachFace_keeps (P := InRange) (fun i _ ht => ht.latchFace i) _ h

theorem InRange.withCycle {s : State} (h : InRange s) (y : Option Cycle) : InRange { s with cycle := y } := h

theorem InRange.cycleStart {s : State} (h : InRange s) : InRange s.cycleStart := by
  have hlatched := h.latchCycle
  unfold State.cycleStart State.beginCycle
  split
  · split
    · exact (hlatched.withCycle none).completeHalt
    · exact hlatched.withCycle none
  · exact hlatched.slotStart _ _ _

/-! ### Slot ends -/

theorem InRange.cycleEnd {s : State} (h : InRange s) : InRange s.cycleEnd := by
  have hended : InRange { s with cycle := none, overrunWaiting := false } := h
  unfold State.cycleEnd
  dsimp only
  split
  · exact hended.completeHalt
  · split
    · exact hended.cycleStart
    · exact hended

theorem InRange.nextSlot {s : State} (h : InRange s) (c : Cycle) : InRange (s.nextSlot c) := by
  unfold State.nextSlot
  split
  · exact h.cycleEnd
  · exact h.slotStart _ _ _

theorem InRange.monitored {s : State} (h : InRange s) (r : SlotReport) : DynInRange (s.monitored r).1 :=
  (((h.dyn r.face).applyObservations s.persist r).deliver r).faceLife _ r

theorem InRange.cutoffTest {s : State} (h : InRange s) (i : FaceNo) : InRange (s.cutoffTest i) := by
  unfold State.cutoffTest
  dsimp only
  split
  · exact h.enterCutoff i
  · exact h

theorem InRange.faultMonitor {s : State} (h : InRange s) (r : SlotReport) : InRange (s.faultMonitor r) := by
  have hstored : InRange (s.setFaceDyn r.face (s.monitored r).1) := h.setFaceDyn (h.monitored r)
  unfold State.faultMonitor State.reportFaults
  refine InRange.cutoffTest ?_ r.face
  split
  · split
    · exact hstored.post _
    · exact (hstored.post _).post _
  · split
    · exact hstored
    · exact hstored.post _

/-- R18: the counters of a slot's attempts. -/
theorem InRange.countMissed {s : State} (h : InRange s) (i : FaceNo) : InRange (s.countMissed i) :=
  h.setFaceDyn ((h.dyn i).withLive (h.dyn i).1.missMore)

theorem InRange.countCorrupt {s : State} (h : InRange s) (i : FaceNo) : InRange (s.countCorrupt i) :=
  h.setFaceDyn ((h.dyn i).withLive (h.dyn i).1.corruptMore)

theorem InRange.countRetry {s : State} (h : InRange s) : InRange { s with retriesSent := bump 65535 s.retriesSent } := by
  obtain ⟨hfaces, herrors, ⟨_, hcounts⟩, hsettings⟩ := h
  exact ⟨hfaces, herrors, ⟨bump_le _ _, hcounts⟩, hsettings⟩

theorem InRange.slotEnd {s : State} (h : InRange s) (c : Cycle) (reply : Option FaceReply) : InRange (s.slotEnd c reply) := by
  unfold State.slotEnd
  refine (InRange.faultMonitor ?_ _).nextSlot c
  split
  · exact h.countMissed _
  · exact h

theorem InRange.attemptFailed {s : State} (h : InRange s) (c : Cycle) (o : AttemptOutcome) : InRange (s.attemptFailed c o) := by
  have hcounted : InRange (if o = .corrupt then s.countCorrupt c.slot.face else s) := by
    split
    · exact h.countCorrupt _
    · exact h
  unfold State.attemptFailed
  dsimp only
  split
  · exact hcounted.countRetry
  · exact hcounted.slotEnd _ none

theorem InRange.takeWait {s : State} (h : InRange s) (c : Cycle) (w n : Nat) (e : Bool) : InRange (s.takeWait c w n e) := by
  unfold State.takeWait
  split
  · split
    · exact h
    · exact h.attemptFailed c _
  · split
    · exact h.attemptFailed c _
    · exact h

theorem InRange.replyByte {s : State} (h : InRange s) (c : Cycle) (w n : Nat) (e : Bool) (bytes : List Byte) :
    InRange (s.replyByte c w n e bytes) := by
  unfold State.replyByte
  split
  · exact h
  · exact h.attemptFailed c _
  · split
    · exact h.slotEnd _ _
    · exact h.takeWait c w n e
    · exact h.attemptFailed c _

/-! ### Requests on modes, the span and the faces -/

theorem InRange.leaveHold {s : State} (h : InRange s) : InRange s.leaveHold := by
  unfold State.leaveHold
  refine eachFace_keeps (P := InRange) (fun i t ht => ?_) s h
  unfold State.leaveHoldFace
  dsimp only
  split
  · exact (ht.setFaceDyn (d := { (t.faces.get i).dyn with commanded := some 0 }) (ht.dyn i)).enterCutoff i
  · exact ht

theorem InRange.takeHalt {s : State} (h : InRange s) : InRange s.takeHalt := by
  have hleft : InRange (if s.mode = .hold then s.leaveHold else s) := by
    split
    · exact h.leaveHold
    · exact h
  have hclose : ∀ u, InRange u → InRange (if u.cycle.isNone then u.completeHalt else u) := by
    intro u hu
    split
    · exact hu.completeHalt
    · exact hu
  unfold State.takeHalt
  split
  · exact h
  · exact h
  · exact hclose _ (hleft.changeMode .halting)
  · exact hclose _ (hleft.changeMode .halting)

theorem InRange.takeRun {s : State} (h : InRange s) : InRange s.takeRun := by
  unfold State.takeRun
  split
  · exact (h.changeMode .running).cycleStart
  · exact h.changeMode .running
  · exact h
  · exact h

theorem InRange.takeUpFace {s : State} (h : InRange s) (i : FaceNo) : InRange (State.takeUpFace i s) := by
  unfold State.takeUpFace
  dsimp only
  split
  · exact h.setFaceDyn ((h.dyn i).takeUp _)
  · exact h

theorem InRange.takeResume {s : State} (h : InRange s) : InRange s.takeResume := by
  unfold State.takeResume
  exact (eachFace_keeps (P := InRange) (fun i _ ht => ht.takeUpFace i) _ h.leaveHold).changeMode .running

/-- R90: a face's enabled flag is no range's. -/
theorem InRange.withEnabled {s : State} (h : InRange s) (i : FaceNo) (flag : Bool) :
    InRange (s.setFaceConfig i { (s.faces.get i).config with enabled := flag }) :=
  h.setFaceConfig (c := { (s.faces.get i).config with enabled := flag }) (h.config i)

theorem InRange.losePlace {s : State} (h : InRange s) (n : Span) (i : FaceNo) : InRange (State.losePlace n i s) := by
  unfold State.losePlace
  split
  · exact h
  · exact (h.withEnabled i false).goOffline i

theorem InRange.changeSpan {s : State} (h : InRange s) (n : Span) : InRange (s.changeSpan n) := by
  have hplaces : InRange (if n.size < s.span.size then s.eachFace (State.losePlace n) else s) := by
    split
    · exact eachFace_keeps (P := InRange) (fun i _ ht => ht.losePlace n i) s h
    · exact h
  exact hplaces

theorem InRange.setEnabled {s : State} (h : InRange s) (members : FaceSet) (flag : Bool) (i : FaceNo) :
    InRange (State.setEnabled members flag i s) := by
  unfold State.setEnabled
  split
  · exact h.withEnabled i flag
  · exact h

/-- R79: the level that a FIXED conditioning holds is in range. -/
theorem faceInRange_conditioned {f : Face} (h : FaceInRange f) {c : Conditioning} (hc : ∀ v ∈ c.level, v ≤ 10000) :
    FaceInRange (f.conditioned c) := by
  obtain ⟨hdyn, hsnap, htrim, hcap, hscale, hup, hdown, _⟩ := h
  refine ⟨?_, hsnap, htrim, hcap, hscale, hup, hdown, hc⟩
  unfold Face.conditioned
  dsimp only
  split <;> exact hdyn

theorem InRange.conditionFace {s : State} (h : InRange s) (members : FaceSet) {c : Conditioning}
    (hc : ∀ v ∈ c.level, v ≤ 10000) (i : FaceNo) : InRange (State.conditionFace members c i s) := by
  unfold State.conditionFace
  split
  · exact h.setFace (faceInRange_conditioned (h.face i) hc)
  · exact h

theorem InRange.restoreFace {s : State} (h : InRange s) (i : FaceNo) : InRange (s.restoreFace i) :=
  (h.setFaceDyn (d := { (s.faces.get i).dyn with state := .active, commanded := some 0 }) (h.dyn i)).post _

/-! ### Requests on counters, claims and settings -/

/-- R143: a snapshot copies counters in range and sets the live ones to 0. -/
theorem InRange.takeSnapshot {s : State} (h : InRange s) : InRange s.takeSnapshot := by
  obtain ⟨hfaces, herrors, ⟨hsent, hover, _, hcounts⟩, hsettings⟩ := h
  refine ⟨fun i => ?_, herrors, ⟨Nat.zero_le _, hover, hsent, hcounts⟩, hsettings⟩
  obtain ⟨⟨hlive, hruns⟩, _, hconfig⟩ := hfaces i
  simp only [State.takeSnapshot, Table.get_map]
  exact ⟨⟨countersInv_zero, hruns⟩, hlive, hconfig⟩

theorem InRange.withAutoCount {s : State} (h : InRange s) {n : Nat} (hn : n ≤ 59) : InRange { s with autoCount := n } := by
  obtain ⟨hfaces, herrors, ⟨hsent, hover, hsnap, _, hholdoffs⟩, hsettings⟩ := h
  exact ⟨hfaces, herrors, ⟨hsent, hover, hsnap, hn, hholdoffs⟩, hsettings⟩

theorem InRange.withHoldoffs {s : State} (h : InRange s) {m n : Nat} (hm : m ≤ 15) (hn : n ≤ 15) :
    InRange { s with holdoff := m, holdoffCount := n } := by
  obtain ⟨hfaces, herrors, ⟨hsent, hover, hsnap, hauto, _⟩, hsettings⟩ := h
  exact ⟨hfaces, herrors, ⟨hsent, hover, hsnap, hauto, hm, hn⟩, hsettings⟩

theorem InRange.holdoffs {s : State} (h : InRange s) : s.holdoff ≤ 15 ∧ s.holdoffCount ≤ 15 := by
  obtain ⟨_, _, ⟨_, _, _, _, hholdoffs⟩, _⟩ := h
  exact hholdoffs

theorem InRange.setAutosnap {s : State} (h : InRange s) (on : Bool) : InRange (s.setAutosnap on) := by
  unfold State.setAutosnap
  split
  · exact h
  · exact h.withAutoCount (Nat.zero_le 59)

theorem InRange.claimFace {s : State} (h : InRange s) (members : FaceSet) (c : Claim) (i : FaceNo) :
    InRange (State.claimFace members c i s) := by
  have hset : InRange (s.setClaim i (some c)) := h
  unfold State.claimFace
  split
  · split
    · exact hset
    · exact hset.post _
  · exact h

theorem InRange.releaseFace {s : State} (h : InRange s) (members : FaceSet) (i : FaceNo) :
    InRange (State.releaseFace members i s) := by
  have hset : InRange (s.setClaim i none) := h
  unfold State.releaseFace
  split
  · exact hset.post _
  · exact h

theorem InRange.times {s : State} (h : InRange s) : TimesInRange s := by
  obtain ⟨_, _, _, htimes, _⟩ := h
  exact htimes

/-- Settings of time and of the chain stored anew, within their ranges. -/
theorem InRange.withTimes {s : State} (h : InRange s) {p q r a b : Nat} {c : Option Nat}
    (ht : TimesInRange { s with period := p, scanPeriod := q, retries := r, curfewStart := a, curfewEnd := b, dayClock := c }) :
    InRange { s with period := p, scanPeriod := q, retries := r, curfewStart := a, curfewEnd := b, dayClock := c } := by
  obtain ⟨hfaces, herrors, hcounts, _, hzones, hpersist⟩ := h
  exact ⟨hfaces, herrors, hcounts, ht, hzones, hpersist⟩

theorem InRange.zone {s : State} (h : InRange s) (n : ZoneNo) : ZoneConfigInv (s.zones.get n).config := by
  obtain ⟨_, _, _, _, hzones, _⟩ := h
  exact hzones n

theorem InRange.persistence {s : State} (h : InRange s) (k : Fin 8) : PersistenceInv (s.persist.get k) := by
  obtain ⟨_, _, _, _, _, hpersist⟩ := h
  exact hpersist k

theorem InRange.setZone {s : State} (h : InRange s) {n : ZoneNo} {z : Zone} (hz : ZoneConfigInv z.config) :
    InRange (s.setZone n z) := by
  obtain ⟨hfaces, herrors, hcounts, htimes, hzones, hpersist⟩ := h
  refine ⟨hfaces, herrors, hcounts, htimes, fun m => ?_, hpersist⟩
  rw [setZone_zones, Table.get_set]
  split
  · exact hz
  · exact hzones m

theorem InRange.setPersist {s : State} (h : InRange s) (n : Fin 8) {p : Persistence} (hp : PersistenceInv p) :
    InRange { s with persist := s.persist.set n p } := by
  obtain ⟨hfaces, herrors, hcounts, htimes, hzones, hpersist⟩ := h
  refine ⟨hfaces, herrors, hcounts, htimes, hzones, fun k => ?_⟩
  dsimp only
  rw [Table.get_set]
  split
  · exact hp
  · exact hpersist k

theorem InRange.requestEffect {s t : State} (h : InRange s) (e : RequestEffect s t) : InRange t := by
  obtain ⟨hperiod, hscan, hretries, hstart, hend, hclock⟩ := h.times
  cases e with
  | nothing => exact h
  | halt => exact h.takeHalt
  | run _ => exact h.takeRun
  | resume _ => exact h.takeResume
  | dayClock v hv => exact h.withTimes ⟨hperiod, hscan, hretries, hstart, hend, by rintro _ ⟨⟩; exact hv⟩
  | curfew v w =>
    exact h.withTimes ⟨hperiod, hscan, hretries, clamp_le _ _ v (by decide), clamp_le _ _ w (by decide), hclock⟩
  | scanPeriod v => exact h.withTimes ⟨hperiod, scanPeriodOf_inRange v, hretries, hstart, hend, hclock⟩
  | zone n f _ => exact h.setZone (zoneStore_inv (h.zone n) f)
  | period v => exact h.withTimes ⟨periodOf_inRange v, hscan, hretries, hstart, hend, hclock⟩
  | retries v => exact h.withTimes ⟨hperiod, hscan, clamp_le _ _ v (by decide), hstart, hend, hclock⟩
  | span n _ _ => exact h.changeSpan n
  | face i f => exact h.setFaceConfig (faceStore_inv (h.config i) f)
  | enabled members flag => exact eachFace_keeps (P := InRange) (fun i _ ht => ht.setEnabled members flag i) s h
  | condition members c hc => exact eachFace_keeps (P := InRange) (fun i _ ht => ht.conditionFace members hc i) s h
  | restore i _ _ => exact h.restoreFace i
  | persist k a c => exact h.setPersist k.no (persistenceStore_inv (h.persistence k.no) a c)
  | snapshot => exact h.takeSnapshot
  | autosnap on => exact h.setAutosnap on
  | fetch => exact h.withHoldoffs h.holdoffs.1 h.holdoffs.1
  | holdoff v => exact h.withHoldoffs (clamp_le _ _ v (by decide)) h.holdoffs.2
  | claim set mode hold _ => exact eachFace_keeps (P := InRange) (fun i _ ht => ht.claimFace _ _ i) s h
  | release members => exact eachFace_keeps (P := InRange) (fun i _ ht => ht.releaseFace members i) s h
  | curve | changes | collect => exact h

/-! ### The link ports -/

theorem InRange.setReceiver {s : State} (h : InRange s) (l : Link) (r : Receiver) : InRange (s.setReceiver l r) :=
  h.setPort l (h.errors l)

/-- R168: the error count stops at 255. -/
theorem InRange.discardFrame {s : State} (h : InRange s) (l : Link) : InRange (s.discardFrame l) :=
  h.setPort l (bump_le _ _)

theorem InRange.takeRequest {s : State} (h : InRange s) (l : Link) (k tag : Byte) {j : State → Answer × State}
    (hj : RequestEffect s (j s).2) : InRange (s.takeRequest l k tag j) :=
  takeRequest_keeps (fun _ => h.requestEffect hj) (fun _ => h.discardFrame l) (fun _ _ _ hu => hu.setPort l (hu.errors l)) h

theorem InRange.frameComplete {s : State} (h : InRange s) (l : Link) (bytes : List Byte) : InRange (s.frameComplete l bytes) := by
  have hwait := h.setReceiver l .waiting
  unfold State.frameComplete
  dsimp only
  split
  · split
    · exact hwait.takeRequest l _ _ (judgeFrame_effect l _ _ _)
    · exact hwait.discardFrame l
  · exact hwait.discardFrame l

theorem InRange.frameByte {s : State} (h : InRange s) (l : Link) (taken : List Byte) (b : Byte) :
    InRange (s.frameByte l taken b) := by
  unfold State.frameByte
  split
  · split
    · exact (h.setReceiver l .waiting).discardFrame l
    · exact h.setReceiver l _
  · split
    · exact h.setReceiver l _
    · exact h.frameComplete l _

theorem linkByteReceived_keeps_ranges {s t : State} {l : Link} {b : Byte} {fe : Bool} (h : InRange s)
    (e : exec (.linkByteReceived l b fe) s = .next t) : InRange t := by
  cases e
  split
  · exact h
  · split
    · split
      · exact h.setReceiver l _
      · exact h
    · split
      · exact (h.setReceiver l .waiting).discardFrame l
      · exact h.frameByte l _ b

theorem linkFrameTimeout_keeps_ranges {s t : State} {l : Link} (h : InRange s) (e : exec (.linkFrameTimeout l) s = .next t) :
    InRange t := by
  cases e
  split
  · exact h
  · exact (h.setReceiver l .waiting).discardFrame l

/-! ### Resets -/

/-- R163, R165: what any reset clears is cleared to values in range, and the settings stand. -/
theorem InRange.clearKnowledge {s : State} (h : InRange s) : InRange s.clearKnowledge := by
  refine ⟨fun i => ?_, ⟨Nat.zero_le _, Nat.zero_le _⟩,
    ⟨Nat.zero_le _, Nat.zero_le _, Nat.zero_le _, Nat.zero_le _, h.holdoffs.1, Nat.zero_le _⟩, h.times, fun n => ?_,
    h.persistence⟩
  · show FaceInRange ((s.faces.map Face.afterReset).get i)
    rw [Table.get_map]
    exact ⟨dynInRange_cleared _, countersInv_zero, h.config i⟩
  · show ZoneConfigInv ((s.zones.map (fun z => Zone.cleared z.config)).get n).config
    rw [Table.get_map]
    exact h.zone n

/-- R165: a cold reset's values are in range. -/
theorem InRange.coldConfiguration {s : State} (h : InRange s) (w : Width) : InRange (s.coldConfiguration w) := by
  obtain ⟨hfaces, herrors, ⟨hsent, hover, hsnap, hauto, _, hcount⟩, _⟩ := h
  refine ⟨fun i => ?_, herrors, ⟨hsent, hover, hsnap, hauto, Nat.zero_le _, hcount⟩, ?_, fun n => ?_, persistenceInv_cold⟩
  · show FaceInRange ((s.faces.map (fun f : Face => { f with config := FaceConfig.cold })).get i)
    rw [Table.get_map]
    obtain ⟨hdyn, hsnapped, _⟩ := hfaces i
    exact ⟨hdyn, hsnapped, faceConfigInv_cold⟩
  · show (50 ≤ 200 ∧ 200 ≤ 2000 ∧ 200 % 10 = 0) ∧ (100 ≤ 250 ∧ 250 ≤ 1000 ∧ 250 % 50 = 0) ∧ 1 ≤ 2 ∧ 0 ≤ 86399 ∧ 0 ≤ 86399 ∧
      ∀ t ∈ (none : Option Nat), t ≤ 86399
    decide
  · show ZoneConfigInv ((s.zones.map (fun z : Zone => { z with config := ZoneConfig.cold w })).get n).config
    rw [Table.get_map]
    exact zoneConfigInv_cold w

theorem InRange.withLine {s : State} (h : InRange s) (r : ResetLine) : InRange { s with resetLine := r } := h

theorem InRange.beginReset {s : State} (h : InRange s) (cause : ResetCause) : InRange (s.beginReset cause) :=
  (h.withLine _).clearKnowledge

/-- R165, R166: what a reset's completion sets beside what it clears. -/
theorem InRange.withRestart {s : State} (h : InRange s) (r : ResetLine) (c : ResetCause) (p : Straps) (m : Mode)
    (t : Option Nat) : InRange { s with resetLine := r, lastCause := c, straps := p, mode := m, scanTimer := t } := h

theorem InRange.finishReset {s : State} (h : InRange s) (cause : ResetCause) (straps : Straps) :
    InRange (s.finishReset cause straps) := by
  have hkept : InRange (if cause.cold then s.coldConfiguration (strapWidth straps) else s) := by
    split
    · exact h.coldConfiguration _
    · exact h
  have hcleared := hkept.clearKnowledge
  unfold State.finishReset
  dsimp only
  generalize State.clearKnowledge (if cause.cold then s.coldConfiguration (strapWidth straps) else s) = u at hcleared ⊢
  exact ((hcleared.withRestart _ _ _ _ _).post _).cycleStart

theorem InRange.tryFinish {s : State} (h : InRange s) (straps : Straps) : InRange (s.tryFinish straps) := by
  unfold State.tryFinish
  split
  · split
    · exact h.finishReset _ straps
    · exact h
  · exact h

theorem replySent_keeps_ranges {s t : State} {l : Link} {straps : Straps} (h : InRange s)
    (e : exec (.replySent l straps) s = .next t) : InRange t := by
  cases e
  split
  · have hsent : InRange (s.setPort l { s.port l with reply := none }) := h.setPort l (h.errors l)
    dsimp only
    split
    · exact (hsent.beginReset _).tryFinish straps
    · exact hsent
  · exact h

theorem resetPinLow_keeps_ranges {s t : State} (h : InRange s) (e : exec .resetPinLow s = .next t) : InRange t := by
  cases e
  split
  · exact h
  · exact (h.withLine _).beginReset .pin

theorem supplyDip_keeps_ranges {s t : State} (h : InRange s) (e : exec .supplyDip s = .next t) : InRange t := by
  cases e
  split
  · exact (h.withLine _).beginReset .supplyDip
  · exact h

theorem supplyOff_keeps_ranges {s t : State} (h : InRange s) (e : exec .supplyOff s = .next t) : InRange t := by
  cases e
  exact (h.withLine _).beginReset .powerOn

theorem resetPinRelease_keeps_ranges {s t : State} {straps : Straps} (h : InRange s)
    (e : exec (.resetPinRelease straps) s = .next t) : InRange t := by
  cases e
  exact (h.withLine _).tryFinish straps

theorem supplyRecovery_keeps_ranges {s t : State} {straps : Straps} (h : InRange s)
    (e : exec (.supplyRecovery straps) s = .next t) : InRange t := by
  cases e
  exact (h.withLine _).tryFinish straps

/-! ### The chain's events -/

/-- R6: an overrun is counted. -/
theorem InRange.overrun {s : State} (h : InRange s) : InRange s.overrun := by
  obtain ⟨hfaces, herrors, ⟨hsent, _, hcounts⟩, hsettings⟩ := h
  unfold State.overrun
  refine InRange.post ?_ _
  exact ⟨hfaces, herrors, ⟨hsent, bump_le _ _, hcounts⟩, hsettings⟩

theorem cycleTimerExpiry_keeps_ranges {s t : State} (h : InRange s) (e : exec .cycleTimerExpiry s = .next t) : InRange t := by
  cases e
  split
  · exact h
  · split
    · exact h.overrun
    · split
      · exact h
      · exact h.cycleStart

theorem chainFrameSent_keeps_ranges {s t : State} (h : InRange s) (e : exec .chainFrameSent s = .next t) : InRange t := by
  cases e
  split
  · split <;> exact h
  · exact h

theorem replyWindowExpiry_keeps_ranges {s t : State} (h : InRange s) (e : exec .replyWindowExpiry s = .next t) :
    InRange t := by
  cases e
  split
  · split
    · exact h.attemptFailed _ _
    · exact h
    · exact h
  · exact h

theorem chainByteReceived_keeps_ranges {s t : State} {b : Byte} (h : InRange s)
    (e : exec (.chainByteReceived b) s = .next t) : InRange t := by
  cases e
  split
  · split
    · exact h
    · split <;> exact h
    · exact h.replyByte _ _ _ _ _
  · exact h

theorem chainReplyGapTimeout_keeps_ranges {s t : State} (h : InRange s) (e : exec .chainReplyGapTimeout s = .next t) :
    InRange t := by
  cases e
  split
  · split
    · exact h.attemptFailed _ _
    · exact h
    · exact h
  · exact h

/-! ### Scans -/

theorem InRange.postAll {s : State} (h : InRange s) (l : List NoticeBody) : InRange (s.postAll l) := (postAll_only s l).inRange h

/-- R32: the zone update leaves the zones' configurations as they are. -/
theorem InRange.completeScan {s : State} (h : InRange s) (naming : Table Naming 8) : InRange (s.completeScan naming) := by
  obtain ⟨hfaces, herrors, hcounts, htimes, hzones, hpersist⟩ := h
  rw [completeScan_eq]
  refine InRange.postAll ?_ _
  refine ⟨hfaces, herrors, hcounts, htimes, fun n => ?_, hpersist⟩
  dsimp only
  rw [Table.get_mapNo]
  exact hzones n

theorem InRange.pollFrom {s : State} (h : InRange s) (naming : Table Naming 8) (l : List SensorNo) :
    InRange (s.pollFrom naming l) := by
  cases l with
  | nil => exact h.completeScan naming
  | cons n todo => exact h

theorem InRange.startScan {s : State} (h : InRange s) : InRange s.startScan := by
  unfold State.startScan
  dsimp only
  rw [foldl_nameSensor]
  refine InRange.pollFrom (InRange.postAll ?_ _) _ _
  exact h

theorem InRange.changeSensor {s : State} (h : InRange s) (n : SensorNo) (x : Sensor) : InRange (s.changeSensor n x) := by
  rw [changeSensor_eq]
  refine InRange.postAll ?_ _
  exact h

theorem InRange.endPoll {s : State} (h : InRange s) (c : Scan) (signals : List BusSignal) (reading : Option Nat) :
    InRange (s.endPoll c signals reading) := by
  have hbus : InRange { s with busEnd := signals } := h
  exact (hbus.changeSensor _ _).pollFrom _ _

theorem scanTimerExpiry_keeps_ranges {s t : State} (h : InRange s) (e : exec .scanTimerExpiry s = .next t) : InRange t := by
  have htimer : InRange { s with scanTimer := some s.scanPeriod } := h
  cases e
  split
  · exact h
  · exact htimer.startScan

theorem sensorPollEnd_keeps_ranges {s t : State} {r : PollEnd} (h : InRange s) (e : exec (.sensorPollEnd r) s = .next t) :
    InRange t := by
  cases e
  split
  · split <;> exact h.endPoll _ _ _
  · exact h

theorem sensorPollTimeout_keeps_ranges {s t : State} (h : InRange s) (e : exec .sensorPollTimeout s = .next t) :
    InRange t := by
  cases e
  split
  · exact h.endPoll _ _ _
  · exact h

/-! ### Seconds -/

theorem InRange.lapseClaim {s : State} (h : InRange s) (i : FaceNo) : InRange (s.lapseClaim i) := by
  rw [lapseClaim_eq]
  refine InRange.post ?_ _
  exact h

theorem InRange.claimsSecond {s : State} (h : InRange s) : InRange s.claimsSecond := by
  rw [claimsSecond_eq]
  refine InRange.postAll ?_ _
  exact h

theorem InRange.autoSnapshotNow {s : State} (h : InRange s) : InRange s.autoSnapshotNow :=
  (h.withAutoCount (Nat.zero_le 59)).takeSnapshot.post .snapshot

/-- R145: at 60 the count starts again from 0. -/
theorem InRange.bankSecond {s : State} (h : InRange s) : InRange s.bankSecond := by
  rw [bankSecond_eq]
  unfold State.bankTicked
  split
  · exact h
  · split
    · rename_i hmore; exact h.withAutoCount hmore
    · exact h.autoSnapshotNow

theorem InRange.claimsAndBankSecond {s : State} (h : InRange s) : InRange s.claimsAndBankSecond := by
  have hchoice : InRange { s with freeChoices := s.freeChoices + 1 } := h
  unfold State.claimsAndBankSecond
  split
  · dsimp only
    split
    · exact hchoice.bankSecond.claimsSecond
    · exact hchoice.claimsSecond.bankSecond
  · exact h.claimsSecond.bankSecond

/-- R43: the day clock stays below 24 hours. -/
theorem nextSecondOfDay_le {t : Nat} (h : t ≤ 86399) : nextSecondOfDay t ≤ 86399 := by
  unfold nextSecondOfDay
  split <;> omega

theorem InRange.timeSecond {s : State} (h : InRange s) :
    InRange { s with seconds := s.seconds + 1#16, dayClock := s.dayClock.map nextSecondOfDay } := by
  obtain ⟨hperiod, hscan, hretries, hstart, hend, hclock⟩ := h.times
  have hticked : InRange { s with seconds := s.seconds + 1#16 } := h
  refine hticked.withTimes ⟨hperiod, hscan, hretries, hstart, hend, fun v hv => ?_⟩
  obtain ⟨t, ht, rfl⟩ := Option.mem_map.mp hv
  exact nextSecondOfDay_le (hclock t ht)

theorem oneSecondEvent_keeps_ranges {s t : State} (h : InRange s) (e : exec .oneSecondEvent s = .next t) : InRange t := by
  cases e
  split
  · exact h
  · have hticked := h.timeSecond.claimsAndBankSecond
    exact hticked.withHoldoffs hticked.holdoffs.1 ((Nat.sub_le _ 1).trans hticked.holdoffs.2)

theorem claimLapse_keeps_ranges {s t : State} {i : FaceNo} (h : InRange s) (e : exec (.claimLapse i) s = .next t) :
    InRange t := by
  cases e
  split
  · split
    · exact h.lapseClaim i
    · exact h
  · exact h

theorem autoSnapshot_keeps_ranges {s t : State} (h : InRange s) (e : exec .autoSnapshot s = .next t) : InRange t := by
  cases e
  split
  · exact h.autoSnapshotNow
  · exact h

theorem holdoffExpiry_keeps_ranges {s t : State} (h : InRange s) (e : exec .holdoffExpiry s = .next t) : InRange t := by
  cases e
  split
  · exact h.withHoldoffs h.holdoffs.1 (Nat.zero_le 15)
  · exact h

/-! ### Every command, every step -/

theorem request_keeps_ranges {i : Instr} {r : Request} {s t : State} (hi : i.request = some r) (h : InRange s)
    (e : exec i s = .next t) : InRange t := by
  rw [exec_request hi] at e
  cases e
  exact h.takeRequest _ _ _ (judgeKind_effect r.kind r.payload s)

theorem exec_keeps_ranges (i : Instr) (s t : State) (h : InRange s) (e : exec i s = .next t) : InRange t := by
  cases i
  case linkByteReceived => exact linkByteReceived_keeps_ranges h e
  case linkFrameTimeout => exact linkFrameTimeout_keeps_ranges h e
  case replySent => exact replySent_keeps_ranges h e
  case cycleTimerExpiry => exact cycleTimerExpiry_keeps_ranges h e
  case chainFrameSent => exact chainFrameSent_keeps_ranges h e
  case replyWindowExpiry => exact replyWindowExpiry_keeps_ranges h e
  case chainByteReceived => exact chainByteReceived_keeps_ranges h e
  case chainReplyGapTimeout => exact chainReplyGapTimeout_keeps_ranges h e
  case scanTimerExpiry => exact scanTimerExpiry_keeps_ranges h e
  case sensorPollEnd => exact sensorPollEnd_keeps_ranges h e
  case sensorPollTimeout => exact sensorPollTimeout_keeps_ranges h e
  case oneSecondEvent => exact oneSecondEvent_keeps_ranges h e
  case claimLapse => exact claimLapse_keeps_ranges h e
  case autoSnapshot => exact autoSnapshot_keeps_ranges h e
  case holdoffExpiry => exact holdoffExpiry_keeps_ranges h e
  case resetPinLow => exact resetPinLow_keeps_ranges h e
  case resetPinRelease => exact resetPinRelease_keeps_ranges h e
  case supplyDip => exact supplyDip_keeps_ranges h e
  case supplyOff => exact supplyOff_keeps_ranges h e
  case supplyRecovery => exact supplyRecovery_keeps_ranges h e
  all_goals exact request_keeps_ranges rfl h e

/-- Settles O58: every command keeps the ranges, which do not read the queue of commands. -/
theorem stepKeepsRanges : Obligations.StepKeepsRanges := by
  unfold Obligations.StepKeepsRanges
  intro s t hcounts hsettings e
  have hkept : InRange t := step_keeps (P := InRange) (fun _ _ hs => hs) exec_keeps_ranges (hcounts.inRange hsettings) e
  exact ⟨hkept.countInv, hkept.settingInv⟩

end Sys2Proof.Machine
end

section
/-! A notice posted (O33) and the two attention lines (O34). A notice is about the kind and subject of its `key`: posting one replaces the
entry of its key, and otherwise joins the tail of the queue or overflows. -/

namespace Sys2Proof.Machine

/-! ### What a notice is about (R149) -/

/-- R149: the kind and the subject of a notice. -/
def NoticeBody.key (b : NoticeBody) : Nat × Option Nat := (b.kindNo, b.subject)

/-- The kinds and subjects of the notices of a queue, in order. -/
def keysOf (l : List Notice) : List (Nat × Option Nat) := l.map (fun m => m.body.key)

theorem key_eq_iff (a b : NoticeBody) : a.key = b.key ↔ a.kindNo = b.kindNo ∧ a.subject = b.subject := by
  simp [NoticeBody.key]

theorem sameThing_iff (a b : NoticeBody) : a.sameThing b = true ↔ a.key = b.key := by
  simp [NoticeBody.sameThing, key_eq_iff]

theorem length_keysOf (l : List Notice) : (keysOf l).length = l.length := List.length_map _

theorem key_notMem_keysOf (b : NoticeBody) (l : List Notice) : b.key ∉ keysOf l ↔ ∀ m ∈ l, m.body.key ≠ b.key := by
  simp [keysOf]

/-! ### The replacement (R149, step 1) -/

theorem replaceNotice_cons_of_same {n m : Notice} (h : m.body.key = n.body.key) (l : List Notice) :
    replaceNotice n (m :: l) = some (n :: l) := if_pos ((sameThing_iff _ _).mpr h)

theorem replaceNotice_cons_of_other {n m : Notice} (h : m.body.key ≠ n.body.key) (l : List Notice) :
    replaceNotice n (m :: l) = (replaceNotice n l).map (m :: ·) := if_neg fun hsame => h ((sameThing_iff _ _).mp hsame)

theorem replaceNotice_first {n m : Notice} {before : List Notice} (hbefore : ∀ x ∈ before, x.body.key ≠ n.body.key)
    (h : m.body.key = n.body.key) (after : List Notice) :
    replaceNotice n (before ++ m :: after) = some (before ++ n :: after) := by
  induction before with
  | nil => exact replaceNotice_cons_of_same h after
  | cons x before ih =>
    obtain ⟨hx, hrest⟩ := List.forall_mem_cons.mp hbefore
    rw [List.cons_append, replaceNotice_cons_of_other hx, ih hrest, Option.map_some, List.cons_append]

theorem replaceNotice_of_new {n : Notice} {l : List Notice} (h : ∀ x ∈ l, x.body.key ≠ n.body.key) : replaceNotice n l = none := by
  induction l with
  | nil => rfl
  | cons x l ih =>
    obtain ⟨hx, hrest⟩ := List.forall_mem_cons.mp h
    rw [replaceNotice_cons_of_other hx, ih hrest, Option.map_none]

/-! ### Posting (R149, R150) -/

theorem post_replaces {s : State} {b : NoticeBody} {before after : List Notice} {m : Notice}
    (hq : s.queue = before ++ m :: after) (hbefore : ∀ x ∈ before, x.body.key ≠ b.key) (h : m.body.key = b.key) :
    s.post b = { s with queue := before ++ ⟨b, s.seconds⟩ :: after } := by
  have hreplace : replaceNotice ⟨b, s.seconds⟩ s.queue = some (before ++ ⟨b, s.seconds⟩ :: after) := by
    rw [hq]; exact replaceNotice_first (n := ⟨b, s.seconds⟩) hbefore h after
  simp only [State.post, hreplace]

theorem post_appends {s : State} {b : NoticeBody} (hnew : ∀ x ∈ s.queue, x.body.key ≠ b.key) (hroom : s.queue.length < 24) :
    s.post b = { s with queue := s.queue ++ [⟨b, s.seconds⟩] } := by
  have hnone : replaceNotice ⟨b, s.seconds⟩ s.queue = none := replaceNotice_of_new (n := ⟨b, s.seconds⟩) hnew
  simp only [State.post, hnone, Config.queueDepth, hroom, if_true]

theorem post_overflows_of_face {s : State} {b : NoticeBody} {f : FaceNo} (hnew : ∀ x ∈ s.queue, x.body.key ≠ b.key)
    (hfull : 24 ≤ s.queue.length) (hf : b.face = some f) :
    s.post b = { s with changeSet := faceInsert s.changeSet f } := by
  have hnone : replaceNotice ⟨b, s.seconds⟩ s.queue = none := replaceNotice_of_new (n := ⟨b, s.seconds⟩) hnew
  simp only [State.post, hnone, Config.queueDepth, if_neg hfull.not_gt, hf]

theorem post_overflows_of_noFace {s : State} {b : NoticeBody} (hnew : ∀ x ∈ s.queue, x.body.key ≠ b.key)
    (hfull : 24 ≤ s.queue.length) (hf : b.face = none) : s.post b = { s with otherLost := true } := by
  have hnone : replaceNotice ⟨b, s.seconds⟩ s.queue = none := replaceNotice_of_new (n := ⟨b, s.seconds⟩) hnew
  simp only [State.post, hnone, Config.queueDepth, if_neg hfull.not_gt, hf]

/-- Settles O33: by the first entry of the notice's kind and subject, then by the room in the queue and the notice's kind. -/
theorem noticePosting : Obligations.NoticePosting := by
  unfold Obligations.NoticePosting
  intro s b
  simp only [← key_eq_iff]
  refine ⟨fun before after m hq hbefore h => post_replaces hq hbefore h, post_appends, fun hnew hfull => ?_⟩
  cases b with
  | faceFault f _ => exact post_overflows_of_face hnew hfull rfl
  | faceState f _ _ => exact post_overflows_of_face hnew hfull rfl
  | owner f _ _ => exact post_overflows_of_face hnew hfull rfl
  | restart | mode | sensor | zone | overrun | snapshot => exact post_overflows_of_noFace hnew hfull rfl

/-! ### The attention lines (R138, R154) -/

theorem attn_iff (s : State) :
    s.attn = true ↔ s.resetting = false ∧ s.holdoffCount = 0 ∧ (s.queue ≠ [] ∨ s.changeSet ≠ 0#32 ∨ s.otherLost = true) := by
  simp [State.attn, and_assoc, or_assoc]

theorem aattn_iff (s : State) :
    s.aattn = true ↔ s.resetting = false ∧ (s.hazard ≠ 0#32 ∨ s.lapsed ≠ 0#32 ∨ s.restarted = true) := by
  simp [State.aattn, or_assoc]

/-- Settles O34: each line is the conjunction that its rule gives. -/
theorem attentionLines : Obligations.AttentionLines := by
  unfold Obligations.AttentionLines
  exact fun s => ⟨attn_iff s, aattn_iff s⟩

end Sys2Proof.Machine
end

section
/-! The queue, the curves and the claims under every step (O54). `StoresInv` gathers the three invariants. They read the queue, the curves,
the claims and the span alone, so that a change of anything else keeps them as they stand (`h` itself proves it); what remains is the
posting of notices, the latching and loading of curves, the writing and the countdown of claims, and the change of span. -/

namespace Sys2Proof.Machine

/-- Everything that `QueueInv`, `CurveInv` and `ClaimInv` say. -/
abbrev StoresInv (s : State) : Prop := QueueInv s ∧ CurveInv s ∧ ClaimInv s

/-! ### The queue (R149) -/

/-- R149: no two notices of one kind and subject wait. -/
theorem queueInv_iff (s : State) : QueueInv s ↔ s.queue.length ≤ 24 ∧ (keysOf s.queue).Nodup := by
  simp only [QueueInv, keysOf, List.Nodup, List.pairwise_map, ne_eq, key_eq_iff]

/-- A queue of the same length and keys is as good. -/
theorem QueueInv.of_keys {s t : State} (h : QueueInv s) (e : keysOf t.queue = keysOf s.queue) : QueueInv t := by
  rw [queueInv_iff] at h ⊢
  rw [← length_keysOf, e, length_keysOf]
  exact h

/-- R149: a posted notice takes the place of the one of its key, or is the first of its key and finds room, or leaves the queue alone. -/
theorem post_queue_cases (s : State) (b : NoticeBody) :
    keysOf (s.post b).queue = keysOf s.queue ∨
      b.key ∉ keysOf s.queue ∧ s.queue.length < 24 ∧ (s.post b).queue = s.queue ++ [⟨b, s.seconds⟩] := by
  by_cases hnew : ∀ x ∈ s.queue, x.body.key ≠ b.key
  · rcases Nat.lt_or_ge s.queue.length 24 with hroom | hfull
    · exact .inr ⟨(key_notMem_keysOf b _).mpr hnew, hroom, by rw [post_appends hnew hroom]⟩
    · left
      cases hf : b.face with
      | some f => rw [post_overflows_of_face hnew hfull hf]
      | none => rw [post_overflows_of_noFace hnew hfull hf]
  · left
    obtain ⟨x, hx, hsame⟩ : ∃ x ∈ s.queue, x.body.key = b.key := by simpa using hnew
    obtain ⟨m, hfind⟩ := Option.isSome_iff_exists.mp
      (List.find?_isSome (p := fun x => decide (x.body.key = b.key)).mpr ⟨x, hx, decide_eq_true hsame⟩)
    obtain ⟨hm, before, after, hq, hbefore⟩ := List.find?_eq_some_iff_append.mp hfind
    have hkey : m.body.key = b.key := of_decide_eq_true hm
    rw [post_replaces hq (fun y hy => by simpa using hbefore y hy) hkey, hq]
    simp [keysOf, hkey]

theorem QueueInv.post {s : State} (h : QueueInv s) (b : NoticeBody) : QueueInv (s.post b) := by
  rcases post_queue_cases s b with hkeys | ⟨hnew, hroom, hq⟩
  · exact h.of_keys hkeys
  · obtain ⟨_, hnodup⟩ := (queueInv_iff s).mp h
    have hkeys : keysOf (s.queue ++ [⟨b, s.seconds⟩]) = (keysOf s.queue).concat b.key := by simp [keysOf]
    rw [queueInv_iff, hq, hkeys]
    exact ⟨by rw [List.length_append]; exact hroom, hnodup.concat hnew⟩

/-- R151: the notices that a FETCH leaves. -/
theorem QueueInv.drop {s : State} (h : QueueInv s) (n : Nat) : QueueInv { s with queue := s.queue.drop n } := by
  obtain ⟨hlength, hdistinct⟩ := h
  exact ⟨(List.drop_sublist n _).length_le.trans hlength, hdistinct.sublist (List.drop_sublist n _)⟩

theorem StoresInv.post {s : State} (h : StoresInv s) (b : NoticeBody) : StoresInv (s.post b) := by
  obtain ⟨hqueue, hcurves, hclaims⟩ := h
  refine ⟨hqueue.post b, ?_⟩
  obtain ⟨q, c, o, e⟩ := post_only s b
  rw [e]
  exact ⟨hcurves, hclaims⟩

theorem StoresInv.postAll {s : State} (h : StoresInv s) (l : List NoticeBody) : StoresInv (s.postAll l) :=
  foldl_keeps (P := StoresInv) (fun b _ ht => ht.post b) l s h

/-! ### The curves (R47) -/

/-- What `CurveInv` says of one curve. -/
abbrev GoodCurve (c : Curve) : Prop := ValidList c.live ∧ ∀ l ∈ c.waiting, ValidList l

theorem GoodCurve.latch {c : Curve} (h : GoodCurve c) : GoodCurve c.latch := by
  obtain ⟨hlive, hwaiting⟩ := h
  unfold Curve.latch
  split
  · rename_i l hl; exact ⟨hwaiting l hl, nofun⟩
  · exact ⟨hlive, hwaiting⟩

theorem GoodCurve.load {c : Curve} (h : GoodCurve c) (live : Bool) {l : List Breakpoint} (hl : ValidList l) :
    GoodCurve (c.load live l) := by
  obtain ⟨hlive, _⟩ := h
  cases live with
  | true => exact ⟨hl, nofun⟩
  | false => exact ⟨hlive, by rintro _ ⟨⟩; exact hl⟩

theorem goodCurve_cold : GoodCurve Curve.cold := ⟨by decide, nofun⟩

theorem StoresInv.latchCurves {s : State} (h : StoresInv s) : StoresInv s.latchCurves := by
  obtain ⟨hqueue, hcurves, hclaims⟩ := h
  refine ⟨hqueue, fun n => ?_, hclaims⟩
  simp only [State.latchCurves, Table.get_map]
  exact GoodCurve.latch (hcurves n)

theorem StoresInv.loadCurve {s : State} (h : StoresInv s) (n : CurveNo) (live : Bool) {l : List Breakpoint} (hl : ValidList l) :
    StoresInv { s with curves := s.curves.set n ((s.curves.get n).load live l) } := by
  obtain ⟨hqueue, hcurves, hclaims⟩ := h
  refine ⟨hqueue, fun m => ?_, hclaims⟩
  dsimp only
  rw [Table.get_set]
  split
  · exact GoodCurve.load (hcurves n) live hl
  · exact hcurves m

/-! ### The claims (R128 to R132) -/

theorem StoresInv.withClaims {s : State} (h : StoresInv s) {c : Table (Option Claim) 32} (hc : ClaimInv { s with claims := c }) :
    StoresInv { s with claims := c } := by
  obtain ⟨hqueue, hcurves, _⟩ := h
  exact ⟨hqueue, hcurves, hc⟩

/-- A claim record that stands, goes, or counts down. -/
def Wanes (old new : Option Claim) : Prop := ∀ c ∈ new, ∃ c₀ ∈ old, c.mode = c₀.mode ∧ c.remaining ≤ c₀.remaining

theorem wanes_none (old : Option Claim) : Wanes old none := fun _ => nofun

theorem wanes_refl (x : Option Claim) : Wanes x x := fun c hc => ⟨c, hc, rfl, Nat.le_refl _⟩

/-- R132: a one-second event only takes from a claim. -/
theorem wanes_second (x : Option Claim) : Wanes x (x.bind Claim.second) := by
  cases x with
  | none => exact wanes_none none
  | some c =>
    rw [Option.bind_some, Claim.second]
    split
    · exact wanes_refl _
    · split
      · exact wanes_none _
      · rintro _ ⟨⟩; exact ⟨c, rfl, rfl, Nat.sub_le _ _⟩

theorem StoresInv.waneClaims {s : State} (h : StoresInv s) {c : Table (Option Claim) 32}
    (hwane : ∀ i, Wanes (s.claims.get i) (c.get i)) : StoresInv { s with claims := c } := by
  refine h.withClaims fun i x hx => ?_
  obtain ⟨_, _, hclaims⟩ := h
  obtain ⟨x₀, hx₀, hmode, hless⟩ := hwane i x hx
  obtain ⟨hremaining, hlevel, hspan⟩ := hclaims i x₀ hx₀
  exact ⟨hless.trans hremaining, by rw [hmode]; exact hlevel, hspan⟩

/-- R129: CLAIM writes its record on faces below the span. -/
theorem StoresInv.claimedOn {s : State} (h : StoresInv s) {m : FaceSet} (hm : ∀ i, faceIn m i = true → i.val < s.span.size)
    {c : Claim} (hc : c.remaining ≤ 86400 ∧ ∀ v ∈ c.mode.level, v ≤ 10000) : StoresInv (s.claimedOn m c) := by
  unfold State.claimedOn
  refine StoresInv.postAll (h.withClaims fun i x hx => ?_) _
  obtain ⟨_, _, hclaims⟩ := h
  obtain ⟨hremaining, hlevel⟩ := hc
  rw [Table.get_mapNo] at hx
  split at hx
  · rename_i hmember
    cases hx
    exact ⟨hremaining, hlevel, hm i hmember⟩
  · exact hclaims i x hx

theorem StoresInv.releasedOn {s : State} (h : StoresInv s) (m : FaceSet) : StoresInv (s.releasedOn m) := by
  unfold State.releasedOn
  refine StoresInv.postAll (h.waneClaims fun i => ?_) _
  rw [Table.get_mapNo]
  split
  · exact wanes_none _
  · exact wanes_refl _

theorem lt_size_of_faceIn_foldSet {n : Span} {m : FaceSet} {i : FaceNo} (h : faceIn (n.foldSet m) i = true) : i.val < n.size := by
  obtain ⟨j, _, hj⟩ := (faceIn_foldSet n m i).mp h
  rw [← hj]
  exact Nat.mod_lt _ (by cases n <;> decide)

/-- R129: 1,440 minutes at most. -/
theorem maxHold_seconds (hold : Nat) : 60 * clamp 0 maxHold hold ≤ 86400 :=
  Nat.mul_le_mul_left 60 (clamp_le 0 maxHold hold (by decide))

/-- R21: no claim is left at or above a smaller span, since it is refused while there is one. -/
theorem StoresInv.changeSpan {s : State} (h : StoresInv s) {n : Span}
    (hfree : n.size < s.span.size → s.claimedAbove n = false) : StoresInv (s.changeSpan n) := by
  obtain ⟨hqueue, hcurves, hclaims⟩ := h
  have hbelow : ClaimInv { s with span := n } := by
    intro i c hc
    obtain ⟨hremaining, hlevel, hspan⟩ := hclaims i c hc
    refine ⟨hremaining, hlevel, Nat.lt_of_not_le fun habove => ?_⟩
    have hclaimed : s.claimedAbove n = true :=
      (claimedAbove_eq_true s n).mpr ⟨i, habove, Option.ne_none_iff_exists'.mpr ⟨c, hc⟩⟩
    rw [hfree (habove.trans_lt hspan)] at hclaimed
    cases hclaimed
  unfold State.changeSpan
  rw [eachFace_losePlace]
  split <;> exact ⟨hqueue, hcurves, hbelow⟩

/-! ### Slot starts and cycle starts -/

theorem StoresInv.enterCutoff {s : State} (h : StoresInv s) (i : FaceNo) : StoresInv (s.enterCutoff i) := by
  rw [enterCutoff_eq]
  refine StoresInv.post ?_ _
  exact h

theorem StoresInv.changeMode {s : State} (h : StoresInv s) (m : Mode) : StoresInv (s.changeMode m) :=
  StoresInv.post (s := { s with mode := m }) h _

theorem StoresInv.completeHalt {s : State} (h : StoresInv s) : StoresInv s.completeHalt :=
  StoresInv.changeMode (s := { s with overrunWaiting := false, cycleTimer := none }) h .halted

theorem StoresInv.slotStart {s : State} (h : StoresInv s) (served : List FaceNo) (i : FaceNo) (todo : List FaceNo) :
    StoresInv (s.slotStart served i todo) := by
  obtain ⟨f, g, e⟩ := slotStart_spec s served i todo
  rw [e]
  exact h

theorem StoresInv.latchCycle {s : State} (h : StoresInv s) : StoresInv s.latchCycle := by
  unfold State.latchCycle
  rw [latchEnables_eq, State.latchedOver]
  refine StoresInv.postAll ?_ _
  exact h.latchCurves

theorem StoresInv.beginCycle {s : State} (h : StoresInv s) : StoresInv s.beginCycle := by
  unfold State.beginCycle
  split
  · split
    · exact StoresInv.completeHalt (s := { s with cycle := none }) h
    · exact h
  · exact h.slotStart _ _ _

theorem StoresInv.cycleStart {s : State} (h : StoresInv s) : StoresInv s.cycleStart := h.latchCycle.beginCycle

/-! ### Slot ends -/

theorem StoresInv.cycleEnd {s : State} (h : StoresInv s) : StoresInv s.cycleEnd := by
  have hended : StoresInv { s with cycle := none, overrunWaiting := false } := h
  unfold State.cycleEnd
  dsimp only
  split
  · exact hended.completeHalt
  · split
    · exact hended.cycleStart
    · exact hended

theorem StoresInv.nextSlot {s : State} (h : StoresInv s) (c : Cycle) : StoresInv (s.nextSlot c) := by
  unfold State.nextSlot
  split
  · exact h.cycleEnd
  · exact h.slotStart _ _ _

theorem StoresInv.cutoffTest {s : State} (h : StoresInv s) (i : FaceNo) : StoresInv (s.cutoffTest i) := by
  unfold State.cutoffTest
  dsimp only
  split
  · exact h.enterCutoff i
  · exact h

theorem StoresInv.faultMonitor {s : State} (h : StoresInv s) (r : SlotReport) : StoresInv (s.faultMonitor r) := by
  unfold State.faultMonitor
  rw [reportFaults_eq]
  refine StoresInv.cutoffTest (StoresInv.postAll ?_ _) _
  exact h

theorem StoresInv.slotEnd {s : State} (h : StoresInv s) (c : Cycle) (reply : Option FaceReply) : StoresInv (s.slotEnd c reply) := by
  have hcounted : StoresInv (if reply.isNone then s.countMissed c.slot.face else s) := by split <;> exact h
  exact (hcounted.faultMonitor _).nextSlot c

theorem StoresInv.attemptFailed {s : State} (h : StoresInv s) (c : Cycle) (o : AttemptOutcome) :
    StoresInv (s.attemptFailed c o) := by
  have hcounted : StoresInv (if o = .corrupt then s.countCorrupt c.slot.face else s) := by split <;> exact h
  unfold State.attemptFailed
  dsimp only
  split
  · exact hcounted
  · exact hcounted.slotEnd _ none

theorem StoresInv.takeWait {s : State} (h : StoresInv s) (c : Cycle) (w n : Nat) (e : Bool) : StoresInv (s.takeWait c w n e) := by
  unfold State.takeWait
  split
  · split
    · exact h
    · exact h.attemptFailed c _
  · split
    · exact h.attemptFailed c _
    · exact h

theorem StoresInv.replyByte {s : State} (h : StoresInv s) (c : Cycle) (w n : Nat) (e : Bool) (bytes : List Byte) :
    StoresInv (s.replyByte c w n e bytes) := by
  unfold State.replyByte
  split
  · exact h
  · exact h.attemptFailed c _
  · split
    · exact h.slotEnd _ _
    · exact h.takeWait c w n e
    · exact h.attemptFailed c _

/-! ### Requests -/

theorem StoresInv.leaveHold {s : State} (h : StoresInv s) : StoresInv s.leaveHold := by
  refine eachFace_keeps (P := StoresInv) (fun i t ht => ?_) s h
  unfold State.leaveHoldFace
  dsimp only
  split
  · exact StoresInv.enterCutoff (s := t.setFaceDyn i _) ht i
  · exact ht

theorem StoresInv.takeHalt {s : State} (h : StoresInv s) : StoresInv s.takeHalt := by
  have hleft : StoresInv (if s.mode = .hold then s.leaveHold else s) := by
    split
    · exact h.leaveHold
    · exact h
  have hclose : ∀ u, StoresInv u → StoresInv (if u.cycle.isNone then u.completeHalt else u) := by
    intro u hu
    split
    · exact hu.completeHalt
    · exact hu
  unfold State.takeHalt
  split
  · exact h
  · exact h
  · exact hclose _ (hleft.changeMode .halting)
  · exact hclose _ (hleft.changeMode .halting)

theorem StoresInv.takeRun {s : State} (h : StoresInv s) : StoresInv s.takeRun := by
  unfold State.takeRun
  split
  · exact (h.changeMode .running).cycleStart
  · exact h.changeMode .running
  · exact h
  · exact h

theorem StoresInv.takeUpFace {s : State} (h : StoresInv s) (i : FaceNo) : StoresInv (State.takeUpFace i s) := by
  unfold State.takeUpFace
  dsimp only
  split <;> exact h

theorem StoresInv.takeResume {s : State} (h : StoresInv s) : StoresInv s.takeResume :=
  (eachFace_keeps (P := StoresInv) (fun i _ ht => ht.takeUpFace i) _ h.leaveHold).changeMode .running

theorem StoresInv.setAutosnap {s : State} (h : StoresInv s) (on : Bool) : StoresInv (s.setAutosnap on) := by
  unfold State.setAutosnap
  split <;> exact h

theorem StoresInv.takeFetch {s : State} (h : StoresInv s) : StoresInv s.takeFetch := by
  obtain ⟨hqueue, hcurves, hclaims⟩ := h
  exact ⟨hqueue.drop _, hcurves, hclaims⟩

theorem StoresInv.requestEffect {s t : State} (h : StoresInv s) (e : RequestEffect s t) : StoresInv t := by
  cases e with
  | halt => exact h.takeHalt
  | run _ => exact h.takeRun
  | resume _ => exact h.takeResume
  | span n _ hfree => exact h.changeSpan hfree
  | curve n l hl => exact h.loadCurve n _ ((validCurve_iff l).mp hl)
  | enabled members flag => rw [eachFace_setEnabled]; exact h
  | condition members c _ => rw [eachFace_conditionFace]; exact h
  | restore i _ _ => exact StoresInv.post (s := s.setFaceDyn i _) h _
  | autosnap on => exact h.setAutosnap on
  | fetch => exact h.takeFetch
  | claim set mode hold hlevel =>
    rw [eachFace_claimFace]
    exact h.claimedOn (fun _ => lt_size_of_faceIn_foldSet) ⟨maxHold_seconds hold, hlevel⟩
  | release members => rw [eachFace_releaseFace]; exact h.releasedOn members
  | nothing | dayClock | curfew | scanPeriod | zone | period | retries | face | persist | snapshot | changes | holdoff | collect =>
    exact h

theorem StoresInv.setPort {s : State} (h : StoresInv s) (l : Link) (p : Port) : StoresInv (s.setPort l p) := by
  cases l <;> exact h

/-! ### Resets -/

/-- R163, R165: any reset empties the queue and keeps the lists and the claims. -/
theorem StoresInv.clearKnowledge {s : State} (h : StoresInv s) : StoresInv s.clearKnowledge := by
  obtain ⟨_, hcurves, hclaims⟩ := h
  exact ⟨⟨Nat.zero_le _, .nil⟩, hcurves, hclaims⟩

/-- R165: a cold reset's lists are flat, and no face is claimed. -/
theorem StoresInv.coldConfiguration {s : State} (h : StoresInv s) (w : Width) : StoresInv (s.coldConfiguration w) := by
  obtain ⟨hqueue, _, _⟩ := h
  refine ⟨hqueue, fun n => ?_, fun i c hc => ?_⟩
  · simp only [State.coldConfiguration, Table.get_replicate]
    exact goodCurve_cold
  · simp [State.coldConfiguration] at hc

theorem StoresInv.beginReset {s : State} (h : StoresInv s) (cause : ResetCause) : StoresInv (s.beginReset cause) :=
  StoresInv.clearKnowledge (s := { s with resetLine := _ }) h

theorem StoresInv.finishReset {s : State} (h : StoresInv s) (cause : ResetCause) (straps : Straps) :
    StoresInv (s.finishReset cause straps) := by
  have hkept : StoresInv (if cause.cold then s.coldConfiguration (strapWidth straps) else s) := by
    split
    · exact h.coldConfiguration _
    · exact h
  unfold State.finishReset
  refine StoresInv.cycleStart (StoresInv.post ?_ _)
  exact hkept.clearKnowledge

theorem StoresInv.tryFinish {s : State} (h : StoresInv s) (straps : Straps) : StoresInv (s.tryFinish straps) := by
  unfold State.tryFinish
  split
  · split
    · exact h.finishReset _ straps
    · exact h
  · exact h

theorem replySent_keeps_stores {s t : State} {l : Link} {straps : Straps} (h : StoresInv s)
    (e : exec (.replySent l straps) s = .next t) : StoresInv t := by
  cases e
  split
  · have hsent := h.setPort l { s.port l with reply := none }
    dsimp only
    split
    · exact (hsent.beginReset _).tryFinish straps
    · exact hsent
  · exact h

theorem resetPinLow_keeps_stores {s t : State} (h : StoresInv s) (e : exec .resetPinLow s = .next t) : StoresInv t := by
  cases e
  split
  · exact h
  · exact StoresInv.beginReset (s := { s with resetLine := _ }) h .pin

theorem supplyDip_keeps_stores {s t : State} (h : StoresInv s) (e : exec .supplyDip s = .next t) : StoresInv t := by
  cases e
  split
  · exact StoresInv.beginReset (s := { s with resetLine := _ }) h .supplyDip
  · exact h

theorem supplyOff_keeps_stores {s t : State} (h : StoresInv s) (e : exec .supplyOff s = .next t) : StoresInv t := by
  cases e
  exact StoresInv.beginReset (s := { s with resetLine := _ }) h .powerOn

theorem resetPinRelease_keeps_stores {s t : State} {straps : Straps} (h : StoresInv s)
    (e : exec (.resetPinRelease straps) s = .next t) : StoresInv t := by
  cases e
  exact StoresInv.tryFinish (s := { s with resetLine := { s.resetLine with pinLow := false } }) h straps

theorem supplyRecovery_keeps_stores {s t : State} {straps : Straps} (h : StoresInv s)
    (e : exec (.supplyRecovery straps) s = .next t) : StoresInv t := by
  cases e
  exact StoresInv.tryFinish (s := { s with resetLine := { s.resetLine with supply := .working } }) h straps

/-! ### The chain's events -/

theorem cycleTimerExpiry_keeps_stores {s t : State} (h : StoresInv s) (e : exec .cycleTimerExpiry s = .next t) : StoresInv t := by
  cases e
  split
  · exact h
  · split
    · exact StoresInv.post (s := { s with overruns := _, overrunWaiting := true, cycleTimer := none }) h _
    · split
      · exact h
      · exact h.cycleStart

theorem chainFrameSent_keeps_stores {s t : State} (h : StoresInv s) (e : exec .chainFrameSent s = .next t) : StoresInv t := by
  cases e
  split
  · split <;> exact h
  · exact h

theorem replyWindowExpiry_keeps_stores {s t : State} (h : StoresInv s) (e : exec .replyWindowExpiry s = .next t) :
    StoresInv t := by
  cases e
  split
  · split
    · exact h.attemptFailed _ _
    · exact h
    · exact h
  · exact h

theorem chainByteReceived_keeps_stores {s t : State} {b : Byte} (h : StoresInv s)
    (e : exec (.chainByteReceived b) s = .next t) : StoresInv t := by
  cases e
  split
  · split
    · exact h
    · split <;> exact h
    · exact h.replyByte _ _ _ _ _
  · exact h

theorem chainReplyGapTimeout_keeps_stores {s t : State} (h : StoresInv s) (e : exec .chainReplyGapTimeout s = .next t) :
    StoresInv t := by
  cases e
  split
  · split
    · exact h.attemptFailed _ _
    · exact h
    · exact h
  · exact h

/-! ### Scans -/

theorem StoresInv.polling {s : State} (h : StoresInv s) (naming : Table Naming 8) (l : List SensorNo) :
    StoresInv (s.polling naming l) := by
  cases l with
  | nil =>
    refine StoresInv.postAll ?_ _
    exact h
  | cons n todo => exact h

theorem StoresInv.startScan {s : State} (h : StoresInv s) : StoresInv s.startScan := by
  rw [startScan_eq]
  refine StoresInv.polling (StoresInv.postAll ?_ _) _ _
  exact h

theorem StoresInv.endPoll {s : State} (h : StoresInv s) (c : Scan) (signals : List BusSignal) (reading : Option Nat) :
    StoresInv (s.endPoll c signals reading) := by
  rw [endPoll_eq]
  refine StoresInv.polling (StoresInv.postAll ?_ _) _ _
  exact h

theorem scanTimerExpiry_keeps_stores {s t : State} (h : StoresInv s) (e : exec .scanTimerExpiry s = .next t) : StoresInv t := by
  cases e
  split
  · exact h
  · exact StoresInv.startScan (s := { s with scanTimer := some s.scanPeriod }) h

theorem sensorPollEnd_keeps_stores {s t : State} {r : PollEnd} (h : StoresInv s) (e : exec (.sensorPollEnd r) s = .next t) :
    StoresInv t := by
  cases e
  split
  · split <;> exact h.endPoll _ _ _
  · exact h

theorem sensorPollTimeout_keeps_stores {s t : State} (h : StoresInv s) (e : exec .sensorPollTimeout s = .next t) :
    StoresInv t := by
  cases e
  split
  · exact h.endPoll _ _ _
  · exact h

/-! ### Seconds -/

theorem StoresInv.lapseClaim {s : State} (h : StoresInv s) (i : FaceNo) : StoresInv (s.lapseClaim i) := by
  rw [lapseClaim_eq]
  refine StoresInv.post ?_ _
  refine h.waneClaims (c := s.claims.set i none) fun j => ?_
  rw [Table.get_set]
  split
  · exact wanes_none _
  · exact wanes_refl _

theorem StoresInv.claimsSecond {s : State} (h : StoresInv s) : StoresInv s.claimsSecond := by
  rw [claimsSecond_eq]
  refine StoresInv.postAll ?_ _
  refine h.waneClaims (c := s.claims.map (fun c => c.bind Claim.second)) fun i => ?_
  rw [Table.get_map]
  exact wanes_second _

theorem StoresInv.autoSnapshotNow {s : State} (h : StoresInv s) : StoresInv s.autoSnapshotNow :=
  StoresInv.post (s := State.takeSnapshot { s with autoCount := 0 }) h .snapshot

theorem StoresInv.bankSecond {s : State} (h : StoresInv s) : StoresInv s.bankSecond := by
  unfold State.bankSecond
  split
  · split
    · exact h.autoSnapshotNow
    · exact h
  · exact h

theorem StoresInv.claimsAndBankSecond {s : State} (h : StoresInv s) : StoresInv s.claimsAndBankSecond := by
  have hchoice : StoresInv { s with freeChoices := s.freeChoices + 1 } := h
  unfold State.claimsAndBankSecond
  split
  · dsimp only
    split
    · exact hchoice.bankSecond.claimsSecond
    · exact hchoice.claimsSecond.bankSecond
  · exact h.claimsSecond.bankSecond

theorem oneSecondEvent_keeps_stores {s t : State} (h : StoresInv s) (e : exec .oneSecondEvent s = .next t) : StoresInv t := by
  cases e
  split
  · exact h
  · exact StoresInv.claimsAndBankSecond
      (s := { s with seconds := s.seconds + 1#16, dayClock := s.dayClock.map nextSecondOfDay }) h

theorem claimLapse_keeps_stores {s t : State} {i : FaceNo} (h : StoresInv s) (e : exec (.claimLapse i) s = .next t) :
    StoresInv t := by
  cases e
  split
  · split
    · exact h.lapseClaim i
    · exact h
  · exact h

theorem autoSnapshot_keeps_stores {s t : State} (h : StoresInv s) (e : exec .autoSnapshot s = .next t) : StoresInv t := by
  cases e
  split
  · exact h.autoSnapshotNow
  · exact h

theorem holdoffExpiry_keeps_stores {s t : State} (h : StoresInv s) (e : exec .holdoffExpiry s = .next t) : StoresInv t := by
  cases e
  split <;> exact h

/-! ### Every command, every step -/

theorem exec_keeps_stores (i : Instr) (s t : State) (h : StoresInv s) (e : exec i s = .next t) : StoresInv t := by
  have hport : ∀ u l p, StoresInv u → StoresInv (u.setPort l p) := fun _ l p hu => hu.setPort l p
  have heffect : ∀ u v, RequestEffect u v → StoresInv u → StoresInv v := fun _ _ he hu => hu.requestEffect he
  cases i
  case linkByteReceived => exact linkByteReceived_keeps hport heffect h e
  case linkFrameTimeout => exact linkFrameTimeout_keeps hport h e
  case replySent => exact replySent_keeps_stores h e
  case cycleTimerExpiry => exact cycleTimerExpiry_keeps_stores h e
  case chainFrameSent => exact chainFrameSent_keeps_stores h e
  case replyWindowExpiry => exact replyWindowExpiry_keeps_stores h e
  case chainByteReceived => exact chainByteReceived_keeps_stores h e
  case chainReplyGapTimeout => exact chainReplyGapTimeout_keeps_stores h e
  case scanTimerExpiry => exact scanTimerExpiry_keeps_stores h e
  case sensorPollEnd => exact sensorPollEnd_keeps_stores h e
  case sensorPollTimeout => exact sensorPollTimeout_keeps_stores h e
  case oneSecondEvent => exact oneSecondEvent_keeps_stores h e
  case claimLapse => exact claimLapse_keeps_stores h e
  case autoSnapshot => exact autoSnapshot_keeps_stores h e
  case holdoffExpiry => exact holdoffExpiry_keeps_stores h e
  case resetPinLow => exact resetPinLow_keeps_stores h e
  case resetPinRelease => exact resetPinRelease_keeps_stores h e
  case supplyDip => exact supplyDip_keeps_stores h e
  case supplyOff => exact supplyOff_keeps_stores h e
  case supplyRecovery => exact supplyRecovery_keeps_stores h e
  all_goals exact request_keeps hport heffect rfl h e

/-- Settles O54: every command keeps the three invariants, which do not read the queue of commands. -/
theorem stepKeepsQueueCurvesClaims : Obligations.StepKeepsQueueCurvesClaims := by
  unfold Obligations.StepKeepsQueueCurvesClaims
  intro s t hqueue hcurves hclaims e
  exact step_keeps (P := StoresInv) (fun _ _ hs => hs) exec_keeps_stores ⟨hqueue, hcurves, hclaims⟩ e

end Sys2Proof.Machine
end

section
/-! The mode requests (O12 to O14). The leaving of HOLD, made face by face with a notice for each face cut off, is one change of the
face table and the hazard set followed by the notices in ascending order; the taking-up of RESUME is one change of the face table. -/

namespace Sys2Proof.Machine

/-! ### The leaving of HOLD (R99) -/

/-- R99: whether a face with this record is cut off as the part leaves HOLD. -/
def Face.hot (f : Face) : Bool := decide (f.dyn.state = .active) && kindIn f.dyn.asserted .overbright

theorem hot_eq (s : State) (i : FaceNo) : s.hot i = (s.faces.get i).hot := rfl

/-- One face's part in the leaving of HOLD, without its notice. -/
def State.coolFace (i : FaceNo) (s : State) : State :=
  { s with
    faces := s.faces.set i (if s.hot i then (s.faces.get i).cutOff else s.faces.get i)
    hazard := if s.hot i then faceInsert s.hazard i else s.hazard }

/-- The FACE_STATE notice of a face that is cut off as the part leaves HOLD. -/
def State.coolNotices (s : State) (i : FaceNo) : List NoticeBody := if s.hot i then [.faceState i .cutoff false] else []

theorem coolFace_noticeFree (i : FaceNo) : NoticeFree (State.coolFace i) := ⟨fun _ => rfl, fun _ _ _ _ => rfl⟩

/-- R99: a face's record and the hazard set, then its notice; the commanded level is written once, at 0. -/
theorem leaveHoldFace_eq (i : FaceNo) (s : State) : State.leaveHoldFace i s = (s.coolFace i).postAll (s.coolNotices i) := by
  unfold State.leaveHoldFace State.coolFace State.coolNotices
  dsimp only
  simp only [← hot_eq_true]
  cases s.hot i with
  | true =>
    rw [if_pos rfl, enterCutoff_eq, cutFaces_setFaceDyn]
    rfl
  | false => simp

theorem coolFace_self (i : FaceNo) (s : State) :
    (s.coolFace i).faces.get i = (if s.hot i then (s.faces.get i).cutOff else s.faces.get i) ∧
      faceIn (s.coolFace i).hazard i = (faceIn s.hazard i || s.hot i) := by
  refine ⟨Table.get_set_self _ _ _, ?_⟩
  cases hh : s.hot i <;> simp [State.coolFace, hh, faceIn_insert]

theorem coolFace_other {i j : FaceNo} (h : j ≠ i) (s : State) :
    (s.coolFace i).faces.get j = s.faces.get j ∧ faceIn (s.coolFace i).hazard j = faceIn s.hazard j := by
  refine ⟨Table.get_set_ne _ h _, ?_⟩
  cases hh : s.hot i <;> simp [State.coolFace, hh, faceIn_insert, h]

/-- Every face's part in the leaving of HOLD, as one change of the face table and the hazard set. -/
theorem eachFace_coolFace (s : State) :
    s.eachFace State.coolFace =
      { s with
        faces := s.faces.mapNo (fun i f => if s.hot i then f.cutOff else f)
        hazard := s.hazard ||| faceSetOf s.hot } := by
  obtain ⟨f, m, h⟩ : ∃ f m, s.eachFace State.coolFace = { s with faces := f, hazard := m } := by
    refine eachFace_keeps (P := fun t => ∃ f m, t = { s with faces := f, hazard := m }) ?_ s ⟨s.faces, s.hazard, rfl⟩
    rintro i t ⟨f, m, rfl⟩
    exact ⟨_, _, rfl⟩
  have hread := eachFace_read (fun t i => (t.faces.get i, faceIn t.hazard i))
    (fun _ p => (if p.1.hot then p.1.cutOff else p.1, p.2 || p.1.hot))
    (fun i t => Prod.ext (coolFace_self i t).1 (coolFace_self i t).2)
    (fun i j t hj => Prod.ext (coolFace_other hj t).1 (coolFace_other hj t).2) s
  rw [h] at hread ⊢
  have hfaces : f = s.faces.mapNo (fun i f => if s.hot i then f.cutOff else f) :=
    Table.ext_get fun i => by rw [Table.get_mapNo]; exact congrArg Prod.fst (hread i)
  have hhazard : m = s.hazard ||| faceSetOf s.hot :=
    faceSet_ext fun i => by rw [faceIn_or, faceIn_faceSetOf]; exact congrArg Prod.snd (hread i)
  rw [hfaces, hhazard]

/-- R99: the leaving of HOLD as one change and the FACE_STATE notices in ascending order. -/
theorem leaveHold_eq (s : State) : s.leaveHold = s.leavingHold := by
  have hposted : ∀ t l i, State.coolNotices (State.postAll t l) i = State.coolNotices t i := by
    intro t l i
    obtain ⟨q, c, o, h⟩ := postAll_only t l
    rw [h]; rfl
  have hothers : ∀ t i j, i ≠ j → State.coolNotices (State.coolFace j t) i = State.coolNotices t i := by
    intro t i j hne
    unfold State.coolNotices
    rw [hot_eq, (coolFace_other hne t).1, ← hot_eq]
  have hcooled := eachFace_coolFace s
  unfold State.eachFace at hcooled
  unfold State.leaveHold State.eachFace
  simp only [leaveHoldFace_eq]
  rw [foldl_notices_last coolFace_noticeFree hposted hothers _ allFaces_nodup, hcooled]
  unfold State.coolNotices
  rw [flatMap_ite]
  rfl

theorem leavingHold_cycle (s : State) : s.leavingHold.cycle = s.cycle := by
  obtain ⟨f, m, q, c, o, h⟩ := leaveHold_only s
  rw [← leaveHold_eq, h]

/-! ### The taking-up (R76, R161) -/

/-- R76: the record of a face taken up, for each width of its last shown code. -/
theorem takenUp_of_active {f : Face} (h : f.dyn.state = .active) : f.takenUp = { f with dyn := takeUp f.config.fullScale f.dyn } := by
  unfold Face.takenUp takeUp
  rw [if_pos h]
  rcases f with ⟨config, ⟨state, capability, commanded, delivered, shown, rest⟩, snap⟩
  rcases shown with _ | ⟨code, _ | _⟩ <;> rfl

theorem takeUpFace_eq (i : FaceNo) (s : State) : State.takeUpFace i s = s.setFace i (s.faces.get i).takenUp := by
  unfold State.takeUpFace
  dsimp only
  split
  · rename_i hactive
    rw [takenUp_of_active hactive]
    rfl
  · rename_i hother
    rw [Face.takenUp, if_neg hother, State.setFace, Table.set_get_self]

/-- R161, step 2: the taking-up of every face as one change of the face table. -/
theorem eachFace_takeUpFace (s : State) : s.eachFace State.takeUpFace = { s with faces := s.faces.map Face.takenUp } := by
  have hall : ∀ i, faceIn (faceSetOf fun _ => true) i = true := fun i => faceIn_faceSetOf _ i
  rw [eachFace_members (g := Face.takenUp) (members := faceSetOf fun _ => true)
    (fun i t => by rw [if_pos (hall i), takeUpFace_eq])]
  congr 1
  exact Table.ext_get fun i => by rw [Table.get_mapNo, if_pos (hall i), Table.get_map]

/-! ### HALT, RUN and RESUME (R158 to R161) -/

/-- R159: HALT outside HALTING and HALTED, the cutoffs of leaving HOLD already made: the mode and its notice, and the completion at once
when no cycle is in progress. -/
def State.haltBegun (s : State) : State :=
  let u := s.changeMode .halting
  if s.cycle = none then u.haltDone else u

theorem haltBegun_mode (s : State) : s.haltBegun.mode = if s.cycle = none then .halted else .halting := by
  unfold State.haltBegun
  dsimp only
  split
  · exact post_mode _ _
  · exact changeMode_mode _ _

theorem beginHalt_eq (s : State) :
    (if (s.changeMode .halting).cycle.isNone then (s.changeMode .halting).completeHalt else s.changeMode .halting) =
      s.haltBegun := by
  have hcycle : (s.changeMode .halting).cycle = s.cycle := post_cycle _ _
  simp only [State.haltBegun, hcycle, Option.isNone_iff_eq_none, completeHalt_eq]

theorem takeHalt_of_hold {s : State} (h : s.mode = .hold) : s.takeHalt = s.leavingHold.haltBegun := by
  simp only [State.takeHalt, h, if_true, beginHalt_eq, leaveHold_eq]

theorem takeHalt_of_running {s : State} (h : s.mode = .running) : s.takeHalt = s.haltBegun := by
  simp only [State.takeHalt, h, reduceCtorEq, if_false, beginHalt_eq]

theorem takeHalt_of_stopped {s : State} (h : s.mode = .halting ∨ s.mode = .halted) : s.takeHalt = s := by
  rcases h with h | h <;> simp only [State.takeHalt, h]

/-- The reply of a HALT that begins a halt carries the mode reached. -/
theorem haltBegun_answered (s : State) (tag : Byte) :
    s.haltBegun.answered .halt tag (.done false (bytes1 s.haltBegun.mode.no)) =
      if s.cycle = none then (s.changeMode .halting).haltDone.answered .halt tag (.done false [3#8])
      else (s.changeMode .halting).answered .halt tag (.done false [2#8]) := by
  rw [haltBegun_mode]
  unfold State.haltBegun
  dsimp only
  split <;> rfl

theorem exec_halt_nil {s : State} (h : s.takes .control) (tag : Byte) :
    exec (.halt tag []) s = .next (s.takeHalt.answered .halt tag (.done false (bytes1 s.takeHalt.mode.no))) :=
  exec_taken (r := ⟨.halt, tag, []⟩) rfl h rfl

/-- Settles O12: by the mode in which HALT is taken. -/
theorem haltRequest : Obligations.HaltRequest := by
  unfold Obligations.HaltRequest
  intro tag payload s h
  cases payload with
  | cons a rest => exact exec_taken (r := ⟨.halt, tag, a :: rest⟩) rfl h rfl
  | nil =>
    rw [exec_halt_nil h]
    cases hmode : s.mode with
    | hold => rw [takeHalt_of_hold hmode, haltBegun_answered, leavingHold_cycle]; rfl
    | running => rw [takeHalt_of_running hmode, haltBegun_answered]; rfl
    | halting => rw [takeHalt_of_stopped (.inl hmode), hmode]; rfl
    | halted => rw [takeHalt_of_stopped (.inr hmode), hmode]; rfl

/-- R2, R4: only the completion of a halt changes the mode at a cycle start. -/
theorem cycleStarted_mode {s : State} (h : s.mode ≠ .halting) : s.cycleStarted.mode = s.mode := by
  obtain ⟨f, g, q, c, o, y, e, _⟩ := cycleStart_spec s h
  rw [← cycleStart_eq, e]

/-- R160: RUN is taken in every mode but HOLD. -/
theorem exec_run_nil {s : State} (h : s.takes .control) (hm : s.mode ≠ .hold) (tag : Byte) :
    exec (.run tag []) s = .next (s.takeRun.answered .run tag (.done false (bytes1 s.takeRun.mode.no))) :=
  exec_taken (r := ⟨.run, tag, []⟩) rfl h (if_neg hm)

/-- Settles O13: by the mode in which RUN is taken. -/
theorem runRequest : Obligations.RunRequest := by
  unfold Obligations.RunRequest
  intro tag payload s h
  cases payload with
  | cons a rest => exact exec_taken (r := ⟨.run, tag, a :: rest⟩) rfl h rfl
  | nil =>
    have hrunning : (s.changeMode .running).mode = .running := changeMode_mode s .running
    cases hmode : s.mode with
    | hold => exact exec_taken (r := ⟨.run, tag, []⟩) rfl h (if_pos hmode)
    | running =>
      rw [exec_run_nil h (by simp [hmode])]
      simp only [State.takeRun, hmode]
      rfl
    | halting =>
      rw [exec_run_nil h (by simp [hmode])]
      simp only [State.takeRun, hmode, hrunning]
      rfl
    | halted =>
      have hstarted : (s.changeMode .running).cycleStarted.mode = .running :=
        (cycleStarted_mode (by rw [hrunning]; decide)).trans hrunning
      rw [exec_run_nil h (by simp [hmode])]
      simp only [State.takeRun, hmode, cycleStart_eq, hstarted]
      rfl

theorem takeResume_eq (s : State) :
    s.takeResume = State.changeMode { s.leavingHold with faces := s.leavingHold.faces.map Face.takenUp } .running := by
  rw [State.takeResume, leaveHold_eq, eachFace_takeUpFace]

/-- Settles O14: the cutoffs of leaving HOLD and the taking-up as one change each. -/
theorem resumeRequest : Obligations.ResumeRequest := by
  unfold Obligations.ResumeRequest
  intro tag payload s h
  cases payload with
  | cons a rest => exact exec_taken (r := ⟨.resume, tag, a :: rest⟩) rfl h rfl
  | nil =>
    by_cases hmode : s.mode = .hold
    · have htaken : judgeResume [] s = (.done false (bytes1 s.takeResume.mode.no), s.takeResume) := if_pos hmode
      rw [exec_taken (r := ⟨.resume, tag, []⟩) rfl h htaken, takeResume_eq, changeMode_mode, if_neg (by simp),
        if_neg (by simp [hmode])]
      rfl
    · have hrefused : judgeResume [] s = (.refused .wrongMode, s) := if_neg hmode
      rw [exec_taken (r := ⟨.resume, tag, []⟩) rfl h hrefused, if_neg (by simp), if_pos hmode]

end Sys2Proof.Machine
end

section
/-! Resets in progress (O4, O15): the commands that a reset in progress does not hear, how one begins or is extended, and the cause it
records. -/

namespace Sys2Proof.Machine

/-! ### What a reset in progress does not hear (R163) -/

/-- R163: no request is received while a reset is in progress. -/
theorem request_deaf {i : Instr} {r : Request} {s : State} (hi : i.request = some r) (h : s.resetting = true) :
    exec i s = .next s := by
  rw [exec_request hi, takeRequest_resetting h]

theorem linkByteReceived_deaf {s : State} (h : s.resetting = true) (l : Link) (b : Byte) (e : Bool) :
    exec (.linkByteReceived l b e) s = .next s := congrArg _ (if_pos h)

theorem linkFrameTimeout_waiting {s : State} {l : Link} (h : (s.port l).receiver = .waiting) :
    exec (.linkFrameTimeout l) s = .next s := by
  simp only [exec, execLinkFrameTimeout, h]

theorem replySent_none {s : State} {l : Link} (h : (s.port l).reply = none) (straps : Straps) :
    exec (.replySent l straps) s = .next s := by
  simp only [exec, execReplySent, h]

theorem cycleTimerExpiry_deaf {s : State} (h : s.resetting = true) : exec .cycleTimerExpiry s = .next s := by
  simp only [exec, execCycleTimerExpiry, h, Bool.or_true, if_true]

/-- Log entry 3: the chain's events change nothing while no cycle is in progress. -/
theorem chainFrameSent_idle {s : State} (h : s.cycle = none) : exec .chainFrameSent s = .next s := by
  simp only [exec, execChainFrameSent, h]

theorem replyWindowExpiry_idle {s : State} (h : s.cycle = none) : exec .replyWindowExpiry s = .next s := by
  simp only [exec, execReplyWindowExpiry, h]

theorem chainByteReceived_idle {s : State} (h : s.cycle = none) (b : Byte) : exec (.chainByteReceived b) s = .next s := by
  simp only [exec, execChainByteReceived, h]

theorem chainReplyGapTimeout_idle {s : State} (h : s.cycle = none) : exec .chainReplyGapTimeout s = .next s := by
  simp only [exec, execChainReplyGapTimeout, h]

theorem scanTimerExpiry_deaf {s : State} (h : s.resetting = true) : exec .scanTimerExpiry s = .next s := by
  simp only [exec, execScanTimerExpiry, h, Bool.or_true, if_true]

/-- Log entry 3: the ends of a poll change nothing while no scan is in progress. -/
theorem sensorPollEnd_idle {s : State} (h : s.scan = none) (r : PollEnd) : exec (.sensorPollEnd r) s = .next s := by
  simp only [exec, execSensorPollEnd, h]

theorem sensorPollTimeout_idle {s : State} (h : s.scan = none) : exec .sensorPollTimeout s = .next s := by
  simp only [exec, execSensorPollTimeout, h]

theorem oneSecondEvent_deaf {s : State} (h : s.resetting = true) : exec .oneSecondEvent s = .next s := congrArg _ (if_pos h)

theorem claimLapse_deaf {s : State} (h : s.resetting = true) (i : FaceNo) : exec (.claimLapse i) s = .next s := by
  simp only [exec, execClaimLapse, h]
  cases s.claims.get i <;> simp

theorem autoSnapshot_deaf {s : State} (h : s.resetting = true) : exec .autoSnapshot s = .next s := by
  simp [exec, execAutoSnapshot, h]

theorem holdoffExpiry_over {s : State} (h : s.holdoffCount = 0) : exec .holdoffExpiry s = .next s := by
  simp [exec, execHoldoffExpiry, h]

/-- R163: the lines and the buses of a part with a reset in progress. -/
theorem silent_of_resetting {s : State} (hr : s.resetting = true) (hcycle : s.cycle = none) (hscan : s.scan = none) :
    s.attn = false ∧ s.aattn = false ∧ s.fde = false ∧ s.chainOut = none ∧ s.sensorAddress = none ∧ s.sensorBus = none :=
  ⟨by simp [State.attn, hr], by simp [State.aattn, hr], by simp [State.fde, hcycle], by simp [State.chainOut, hcycle],
    by simp [State.sensorAddress, hscan], by simp [State.sensorBus, hscan]⟩

/-- Settles O4: command by command, from the silence that the reset line's invariant states. -/
theorem resetInProgressIsDeaf : Obligations.ResetInProgressIsDeaf := by
  unfold Obligations.ResetInProgressIsDeaf
  intro c s ⟨_, hsilent⟩ hr
  obtain ⟨hcycle, _, _, hscan, _, hcontrol, hauthority, _, hholdoff⟩ := hsilent hr
  have hport : ∀ l, s.port l = ⟨.waiting, none, 0⟩
    | .control => hcontrol
    | .authority => hauthority
  refine ⟨?_, silent_of_resetting hr hcycle hscan⟩
  cases c
  case resetPinLow | resetPinRelease | supplyDip | supplyOff | supplyRecovery => trivial
  case linkByteReceived l b e => exact linkByteReceived_deaf hr l b e
  case linkFrameTimeout l => exact linkFrameTimeout_waiting (by rw [hport])
  case replySent l straps => exact replySent_none (by rw [hport]) straps
  case cycleTimerExpiry => exact cycleTimerExpiry_deaf hr
  case chainFrameSent => exact chainFrameSent_idle hcycle
  case replyWindowExpiry => exact replyWindowExpiry_idle hcycle
  case chainByteReceived b => exact chainByteReceived_idle hcycle b
  case chainReplyGapTimeout => exact chainReplyGapTimeout_idle hcycle
  case scanTimerExpiry => exact scanTimerExpiry_deaf hr
  case sensorPollEnd r => exact sensorPollEnd_idle hscan r
  case sensorPollTimeout => exact sensorPollTimeout_idle hscan
  case oneSecondEvent => exact oneSecondEvent_deaf hr
  case claimLapse i => exact claimLapse_deaf hr i
  case autoSnapshot => exact autoSnapshot_deaf hr
  case holdoffExpiry => exact holdoffExpiry_over hholdoff
  all_goals exact request_deaf rfl hr

/-! ### How a reset begins (R163, R164) -/

/-- R163: a reset that begins or is extended records the latest of the coldest class of causes. -/
theorem beginReset_eq (s : State) (cause : ResetCause) :
    s.beginReset cause = s.silenced { s.resetLine with cause := some (causeAfter s.resetLine.cause cause) } := by
  unfold State.beginReset
  rcases s.resetLine.cause with _ | _ | _ | _ | _ <;> cases cause <;> rfl

theorem exec_resetPinLow (s : State) :
    exec .resetPinLow s = .next (if s.resetLine.pinLow then s
      else s.silenced ⟨true, s.resetLine.supply, some (causeAfter s.resetLine.cause .pin)⟩) := by
  show Host.Outcome.next (if s.resetLine.pinLow then s
    else State.beginReset { s with resetLine := { s.resetLine with pinLow := true } } .pin) = _
  rw [beginReset_eq]
  rfl

theorem exec_supplyDip (s : State) :
    exec .supplyDip s = .next (if s.resetLine.supply = .working then
        s.silenced ⟨s.resetLine.pinLow, .dipped, some (causeAfter s.resetLine.cause .supplyDip)⟩
      else s) := by
  show Host.Outcome.next (if s.resetLine.supply = .working then
    State.beginReset { s with resetLine := { s.resetLine with supply := .dipped } } .supplyDip else s) = _
  rw [beginReset_eq]
  rfl

theorem exec_supplyOff (s : State) :
    exec .supplyOff s =
      .next (s.silenced ⟨s.resetLine.pinLow, .off, some (causeAfter s.resetLine.cause .powerOn)⟩) := by
  show Host.Outcome.next (State.beginReset { s with resetLine := { s.resetLine with supply := .off } } .powerOn) = _
  rw [beginReset_eq]
  rfl

/-- R164: RESET itself changes nothing but the reply on its way. -/
theorem exec_reset_taken {s : State} (h : s.takes .control) (tag : Byte) (payload : List Byte) :
    exec (.reset tag payload) s =
      .next (s.answered .reset tag (if payload = [] then .done false [] else .refused .badLength)) := by
  cases payload with
  | nil => exact exec_taken (r := ⟨.reset, tag, []⟩) rfl h rfl
  | cons a rest => exact exec_taken (r := ⟨.reset, tag, a :: rest⟩) rfl h rfl

/-- R163: a cold cause is replaced by a cold one only, a warm cause by every one. -/
theorem causeAfter_warm_of_cold {before : ResetCause} (h : before = .powerOn ∨ before = .supplyDip) :
    causeAfter (some before) .pin = before ∧ causeAfter (some before) .linkRequest = before := by
  rcases h with rfl | rfl <;> exact ⟨rfl, rfl⟩

theorem causeAfter_warm_of_warm {before : ResetCause} (h : before = .pin ∨ before = .linkRequest) :
    causeAfter (some before) .pin = .pin ∧ causeAfter (some before) .linkRequest = .linkRequest := by
  rcases h with rfl | rfl <;> exact ⟨rfl, rfl⟩

theorem causeAfter_cold (before : Option ResetCause) :
    causeAfter before .powerOn = .powerOn ∧ causeAfter before .supplyDip = .supplyDip := by
  rcases before with _ | _ | _ | _ | _ <;> exact ⟨rfl, rfl⟩

/-- Settles O15: event by event, and the table of causes. -/
theorem resetBegins : Obligations.ResetBegins := by
  unfold Obligations.ResetBegins
  exact ⟨fun s => ⟨exec_resetPinLow s, exec_supplyDip s, exec_supplyOff s, fun tag payload h => exec_reset_taken h tag payload⟩,
    fun _ => rfl, causeAfter_cold, fun _ => causeAfter_warm_of_cold, fun _ => causeAfter_warm_of_warm⟩

end Sys2Proof.Machine
end

section
/-! The completion of a reset (O16), and the reset state (O17, O60). A reset leaves every face JOINING or OFFLINE as its enabled flag
says, so the enable latch of the first cycle start finds nothing to do, and every slot of that cycle sends IDENT. -/

namespace Sys2Proof

theorem Table.map_map {α β γ : Type} {n : Nat} (f : α → β) (g : β → γ) (t : Table α n) :
    (t.map f).map g = t.map (fun a => g (f a)) :=
  Table.ext_get fun i => by simp only [Table.get_map]

theorem Table.map_eq_replicate {α β : Type} {n : Nat} {f : α → β} {b : β} (h : ∀ a, f a = b) (t : Table α n) :
    t.map f = Table.replicate n b :=
  Table.ext_get fun i => by rw [Table.get_map, Table.get_replicate, h]

theorem Table.map_replicate {α β : Type} {n : Nat} (f : α → β) (a : α) :
    (Table.replicate n a).map f = Table.replicate n (f a) :=
  Table.ext_get fun i => by simp only [Table.get_map, Table.get_replicate]

namespace Machine

/-! ### The first cycle start after a reset (R8, R165) -/

/-- R87: every face is JOINING or OFFLINE, as its enabled flag says. -/
def State.Unserved (s : State) : Prop :=
  ∀ i, (s.faces.get i).dyn.state = if (s.faces.get i).config.enabled then .joining else .offline

theorem State.Unserved.latchFace {s : State} (h : s.Unserved) (i : FaceNo) : State.latchFace i s = s := by
  have hstate := h i
  apply latchFace_of_stays
  · cases he : (s.faces.get i).config.enabled <;> simp [State.joins, hstate, he]
  · cases he : (s.faces.get i).config.enabled <;> simp [State.leaves, hstate, he]

theorem State.Unserved.latchEnables {s : State} (h : s.Unserved) : s.latchEnables = s :=
  eachFace_keeps (P := fun t => t = s) (fun i t ht => by rw [ht, h.latchFace i]) s rfl

/-- R2, step 5: the slot list of the first cycle is the enabled faces below the span. -/
theorem State.Unserved.slotList {s : State} (h : s.Unserved) :
    s.slotList = allFaces.filter (fun i => decide (i.val < s.span.size) && (s.faces.get i).config.enabled) := by
  rw [slotList_eq]
  congr 1
  funext i
  rw [h i]
  cases (s.faces.get i).config.enabled <;> rfl

/-- R10: a face that has not been ACTIVE since the reset is sent IDENT. -/
theorem State.Unserved.frameChoice {s : State} (h : s.Unserved) (i : FaceNo) : s.frameChoice i = .ident := by
  have hstate := h i
  cases he : (s.faces.get i).config.enabled <;> simp [State.frameChoice, hstate, he]

/-- R2, steps 5 and 6, with every face JOINING or OFFLINE. -/
theorem State.Unserved.beginCycle {s : State} (h : s.Unserved) (hm : s.mode ≠ .halting) :
    s.beginCycle = { s with cycle := s.joinCycle } := by
  unfold State.beginCycle State.joinCycle
  rw [h.slotList]
  cases allFaces.filter (fun i => decide (i.val < s.span.size) && (s.faces.get i).config.enabled) with
  | nil => exact if_neg hm
  | cons i todo => exact slotStart_of_ident (h.frameChoice i) [] todo

/-- The part once the timer, the count and the curve latch of a cycle start have been taken (R2, steps 1 to 3). -/
def State.cycleCounted (s : State) : State :=
  { s with
    cycleTimer := some s.period
    cycleCount := s.cycleCount + 1#32
    curves := s.curves.map (fun c => ⟨c.waiting.getD c.live, none⟩) }

theorem State.Unserved.latchCycle {s : State} (h : s.Unserved) : s.latchCycle = s.cycleCounted := by
  unfold State.latchCycle State.latchCurves
  rw [curveLatch_eq]
  exact State.Unserved.latchEnables (s := s.cycleCounted) h

/-- R8: the first cycle start after a reset: no face changes, and the cycle is one of IDENT slots. -/
theorem State.Unserved.cycleStart {s : State} (h : s.Unserved) (hm : s.mode ≠ .halting) :
    s.cycleStart = { s.cycleCounted with cycle := s.joinCycle } := by
  rw [State.cycleStart, h.latchCycle, State.Unserved.beginCycle (s := s.cycleCounted) h hm]
  rfl

/-! ### What the first cycle reads -/

/-- The first cycle reads the faces' and the zones' configurations, the span and the retry setting. -/
theorem joinCycle_congr {s t : State} (hfaces : ∀ i, (t.faces.get i).config = (s.faces.get i).config)
    (hzones : ∀ n, (t.zones.get n).config = (s.zones.get n).config) (hspan : t.span = s.span) (hretries : t.retries = s.retries) :
    t.joinCycle = s.joinCycle := by
  have hslot : t.identSlot = s.identSlot := by
    funext i
    simp only [State.identSlot, hfaces, hzones, hretries]
  simp only [State.joinCycle, hfaces, hspan, hslot]

/-- With no face enabled the first cycle ends at once (R4). -/
theorem joinCycle_of_none_enabled {s : State} (h : ∀ i, (s.faces.get i).config.enabled = false) : s.joinCycle = none := by
  simp only [State.joinCycle, h, Bool.and_false, List.filter_false]

/-! ### What a reset's completion makes of the part (R163 to R166) -/

/-- R165, R166: the part of configuration `s` once a reset of `cause` has completed, its first cycle still to start. -/
def State.resetDone (s : State) (cause : ResetCause) (straps : Straps) : State :=
  { s.clearKnowledge with
    resetLine := { s.resetLine with cause := none }
    lastCause := cause
    straps := straps
    mode := strapMode straps
    scanTimer := some s.scanPeriod
    queue := [⟨.restart cause, 0#16⟩] }

theorem resetDone_unserved (s : State) (cause : ResetCause) (straps : Straps) : (s.resetDone cause straps).Unserved := by
  intro i
  simp only [State.resetDone, State.clearKnowledge, Table.get_map]
  rfl

theorem strapMode_ne_halting (straps : Straps) : strapMode straps ≠ .halting := by
  unfold strapMode
  split <;> decide

theorem finishReset_eq_of_warm {cause : ResetCause} (h : cause.cold = false) (s : State) (straps : Straps) :
    s.finishReset cause straps = (s.resetDone cause straps).cycleStart := by
  unfold State.finishReset
  rw [h]
  rfl

theorem finishReset_eq_of_cold {cause : ResetCause} (h : cause.cold = true) (s : State) (straps : Straps) :
    s.finishReset cause straps = ((s.coldConfiguration (strapWidth straps)).resetDone cause straps).cycleStart := by
  unfold State.finishReset
  rw [h]
  rfl

/-- The first cycle after a reset reads configurations only, which the reset's clearing keeps. -/
theorem resetDone_joinCycle (s : State) (cause : ResetCause) (straps : Straps) :
    (s.resetDone cause straps).joinCycle = s.joinCycle :=
  joinCycle_congr (fun i => by simp only [State.resetDone, State.clearKnowledge, Table.get_map]; rfl)
    (fun n => by simp only [State.resetDone, State.clearKnowledge, Table.get_map]; rfl) rfl rfl

theorem resetDone_cycleStart (s : State) (cause : ResetCause) (straps : Straps) :
    (s.resetDone cause straps).cycleStart = { (s.resetDone cause straps).cycleCounted with cycle := s.joinCycle } := by
  rw [(resetDone_unserved s cause straps).cycleStart (strapMode_ne_halting straps), resetDone_joinCycle]

/-- R165, column "after a warm reset". -/
theorem finishReset_warm {cause : ResetCause} (h : cause.cold = false) (s : State) (straps : Straps) :
    s.finishReset cause straps = s.afterWarm cause straps := by
  rw [finishReset_eq_of_warm h, resetDone_cycleStart]
  rfl

/-- R165: a cold reset leaves no face enabled. -/
theorem coldConfiguration_joinCycle (s : State) (w : Width) : (s.coldConfiguration w).joinCycle = none :=
  joinCycle_of_none_enabled fun i => by simp only [State.coldConfiguration, Table.get_map]; rfl

/-- R86, R87: every face's record after a cold reset. -/
theorem cold_faces (s : State) (w : Width) :
    (s.coldConfiguration w).faces.map Face.afterReset =
      Table.replicate 32 ⟨FaceConfig.cold, FaceDynamic.cleared .offline, Counters.zero⟩ := by
  unfold State.coldConfiguration
  rw [Table.map_map]
  exact Table.map_eq_replicate (b := Face.mk FaceConfig.cold (FaceDynamic.cleared .offline) Counters.zero) (fun _ => rfl) _

/-- R37, R38: every zone's record after a cold reset. -/
theorem cold_zones (s : State) (w : Width) :
    (s.coldConfiguration w).zones.map (fun z => Zone.cleared z.config) = Table.replicate 8 (Zone.cleared (ZoneConfig.cold w)) := by
  unfold State.coldConfiguration
  rw [Table.map_map]
  exact Table.map_eq_replicate (b := Zone.cleared (ZoneConfig.cold w)) (fun _ => rfl) _

/-- R48, R52: a cold reset's curves have nothing to latch. -/
theorem cold_curves : (Table.replicate 8 Curve.cold).map (fun c => (⟨c.waiting.getD c.live, none⟩ : Curve)) =
    Table.replicate 8 Curve.cold := Table.map_replicate _ _

/-- R165, column "after a cold reset". -/
theorem finishReset_cold {cause : ResetCause} (h : cause.cold = true) {s : State} (hp : s.resetLine.pinLow = false)
    (hs : s.resetLine.supply = .working) (straps : Straps) : s.finishReset cause straps = s.afterCold cause straps := by
  rw [finishReset_eq_of_cold h, resetDone_cycleStart, coldConfiguration_joinCycle]
  unfold State.cycleCounted State.resetDone State.clearKnowledge
  rw [cold_faces, cold_zones]
  unfold State.coldConfiguration State.afterCold State.reset
  dsimp only
  rw [cold_curves, hp, hs]
  rfl

theorem cold_iff (cause : ResetCause) : cause.cold = true ↔ cause = .powerOn ∨ cause = .supplyDip := by
  cases cause <;> simp [ResetCause.cold]

/-- R165: the part once a reset of `cause` has completed, by the class of the cause. -/
def State.afterReset (s : State) (cause : ResetCause) (straps : Straps) : State :=
  if cause = .powerOn ∨ cause = .supplyDip then s.afterCold cause straps else s.afterWarm cause straps

theorem tryFinish_of_none {s : State} (h : s.resetLine.cause = none) (straps : Straps) : s.tryFinish straps = s := by
  simp only [State.tryFinish, h]

/-- R163: the reset in progress completes when no cause remains. -/
theorem tryFinish_of_some {s : State} {c : ResetCause} (h : s.resetLine.cause = some c) (straps : Straps) :
    s.tryFinish straps =
      if s.resetLine.pinLow = false ∧ s.resetLine.supply = .working then s.afterReset c straps else s := by
  simp only [State.tryFinish, h]
  split
  · rename_i hline
    obtain ⟨hpin, hsupply⟩ := hline
    simp only [State.afterReset, ← cold_iff]
    split
    · rename_i hcold
      exact finishReset_cold hcold hpin hsupply straps
    · rename_i hwarm
      exact finishReset_warm (Bool.eq_false_iff.mpr hwarm) s straps
  · rfl

/-! ### The events that complete a reset (R163, R164) -/

/-- The part with its reset line replaced. -/
def State.withLine (s : State) (line : ResetLine) : State := { s with resetLine := line }

theorem exec_resetPinRelease (straps : Straps) (s : State) :
    exec (.resetPinRelease straps) s =
      .next ((s.withLine ⟨false, s.resetLine.supply, s.resetLine.cause⟩).tryFinish straps) := rfl

theorem exec_supplyRecovery (straps : Straps) (s : State) :
    exec (.supplyRecovery straps) s =
      .next ((s.withLine ⟨s.resetLine.pinLow, .working, s.resetLine.cause⟩).tryFinish straps) := rfl

theorem silenced_joinCycle (s : State) (line : ResetLine) : (s.silenced line).joinCycle = s.joinCycle :=
  joinCycle_congr (fun i => by simp only [State.silenced, Table.get_map]) (fun n => by simp only [State.silenced, Table.get_map])
    rfl rfl

/-- Log entry 9: what every reset clears may be cleared when the reset begins as well as when it completes. -/
theorem silenced_afterWarm (s : State) (line : ResetLine) (cause : ResetCause) (straps : Straps) :
    (s.silenced line).afterWarm cause straps = State.afterWarm { s with resetLine := line } cause straps := by
  unfold State.afterWarm
  rw [silenced_joinCycle]
  unfold State.silenced
  dsimp only
  rw [Table.map_map, Table.map_map]
  rfl

/-- R164: after the DONE of a RESET the LINK_REQUEST reset begins and completes at once. -/
theorem exec_replySent_reset {s : State} {tag : Byte} {clamped : Bool} {data : List Byte} (straps : Straps)
    (hreply : s.control.reply = some ⟨0x03#8, tag, .done clamped data⟩) (hline : s.resetLine = ⟨false, .working, none⟩) :
    exec (.replySent .control straps) s = .next (s.afterWarm .linkRequest straps) := by
  have hport : (s.port .control).reply = some ⟨0x03#8, tag, .done clamped data⟩ := hreply
  have hexec : exec (.replySent .control straps) s =
      .next (State.tryFinish (State.beginReset { s with control := { s.control with reply := none } } .linkRequest) straps) := by
    simp only [exec, execReplySent, hport]
    rfl
  rw [hexec, beginReset_eq, hline, tryFinish_of_some rfl]
  show Host.Outcome.next (State.afterWarm (State.silenced _ _) .linkRequest straps) = _
  rw [silenced_afterWarm]
  unfold State.afterWarm
  dsimp only
  rw [hline]
  rfl

/-- Settles O16: by the cause recorded and the line that the event leaves. -/
theorem resetCompletes : Obligations.ResetCompletes := by
  unfold Obligations.ResetCompletes
  intro straps s
  refine ⟨?_, ?_, fun tag clamped data hreply hline => exec_replySent_reset straps hreply hline⟩
  · rw [exec_resetPinRelease]
    rcases s.resetLine with ⟨pin, supply, _ | c⟩
    · rw [tryFinish_of_none rfl]
      rfl
    · rw [tryFinish_of_some rfl]
      simp only [State.withLine, true_and]
      rfl
  · rw [exec_supplyRecovery]
    rcases s.resetLine with ⟨pin, supply, _ | c⟩
    · rw [tryFinish_of_none rfl]
      rfl
    · rw [tryFinish_of_some rfl]
      cases pin
      · exact congrArg _ (if_pos ⟨rfl, rfl⟩)
      · exact congrArg _ (if_neg (by rintro ⟨⟨⟩, _⟩))

/-! ### The reset state -/

theorem reset_face (i : FaceNo) :
    State.reset.faces.get i = ⟨FaceConfig.cold, FaceDynamic.cleared .offline, Counters.zero⟩ := Table.get_replicate _ i

/-- Settles O17: field by field; the tables hold equal records. -/
theorem resetState : Obligations.ResetState := by
  unfold Obligations.ResetState
  refine ⟨⟨rfl, rfl, rfl, rfl⟩, ⟨rfl, rfl⟩, ⟨rfl, rfl, rfl, rfl, rfl, rfl⟩, ⟨rfl, rfl, rfl, rfl, rfl, rfl⟩,
    Table.get_replicate _, Table.get_replicate _, Table.get_replicate _, fun i => ?_, rfl, ⟨rfl, rfl, rfl, rfl⟩,
    ⟨rfl, rfl, rfl, rfl, rfl, rfl⟩, ⟨rfl, rfl, rfl, rfl, rfl⟩, ⟨rfl, rfl, rfl, rfl, rfl⟩⟩
  dsimp only
  rw [reset_face]
  exact ⟨rfl, rfl, Table.get_replicate _ i, rfl, rfl, rfl, rfl, rfl, rfl, rfl, rfl, rfl, rfl, rfl, Table.get_replicate _⟩

theorem reset_zone (n : ZoneNo) : State.reset.zones.get n = Zone.cleared (ZoneConfig.cold .w8) := Table.get_replicate _ n

theorem reset_queueInv : QueueInv State.reset := ⟨by decide, List.pairwise_singleton _ _⟩

theorem reset_curveInv : CurveInv State.reset := fun n => by
  show GoodCurve ((Table.replicate 8 Curve.cold).get n)
  rw [Table.get_replicate]
  exact goodCurve_cold

theorem reset_claimInv : ClaimInv State.reset := fun i => by
  have hclaim : State.reset.claims.get i = none := Table.get_replicate _ i
  rw [hclaim]
  nofun

/-- The part as the reset leaves it is in HOLD with its timers running and no cycle in progress. -/
theorem reset_chainLive : ChainLive State.reset where
  cause := rfl
  pin := rfl
  supply := rfl
  retries := Nat.le_succ 1
  scanTimer := Option.some_ne_none _
  cycle := nofun
  halted := nofun
  halting := nofun
  overrun := nofun
  timer := fun _ _ => Option.some_ne_none _

theorem reset_cutoffInv : CutoffInv State.reset := fun i => by
  rw [reset_face]
  exact faceCutoffs_cleared _ (.inr rfl)

theorem reset_levelInv : LevelInv State.reset := by
  refine ⟨fun i => ?_, fun _ => nofun⟩
  rw [reset_face]
  exact faceLevels_cleared (by decide)

theorem reset_inRange : InRange State.reset := by
  refine ⟨fun i => ?_, by decide, by decide, by decide, fun n => ?_, persistenceInv_cold⟩
  · rw [reset_face]
    exact ⟨dynInRange_cleared _, countersInv_zero, faceConfigInv_cold⟩
  · rw [reset_zone]
    exact zoneConfigInv_cold _

theorem reset_sensorInv : SensorInv State.reset := by
  refine ⟨fun n => ?_, fun _ => nofun, fun n => ?_⟩
  · show SensorRecordInv ((Table.replicate 4 Sensor.cleared).get n)
    rw [Table.get_replicate]
    exact cleared_inv
  · rw [reset_zone]
    show 400 ≤ 100000
    decide

/-- Settles O60: invariant by invariant, from what each says of a cleared record. -/
theorem invariantsHoldAtReset : Obligations.InvariantsHoldAtReset := by
  unfold Obligations.InvariantsHoldAtReset
  exact ⟨reset_queueInv, reset_curveInv, reset_claimInv, reset_chainLive.chainInv, reset_cutoffInv, reset_levelInv,
    reset_inRange.countInv, reset_inRange.settingInv, reset_sensorInv⟩

end Machine
end Sys2Proof
end

section
/-! The queue of commands and the ports under every command (O2). `SameLinks` says that two states agree in both; every request's effect and
every event off the links keeps both, the events on the links and the resets keep the queue. -/

namespace Sys2Proof.Machine

/-! ### States with the same ports and the same queue of commands -/

/-- `t` agrees with `s` in the queue of commands and in both link ports. -/
structure SameLinks (s t : State) : Prop where
  pending : t.pending = s.pending
  control : t.control = s.control
  authority : t.authority = s.authority

theorem SameLinks.refl (s : State) : SameLinks s s := ⟨rfl, rfl, rfl⟩

theorem SameLinks.trans {s t u : State} (h : SameLinks s t) (k : SameLinks t u) : SameLinks s u :=
  ⟨k.pending.trans h.pending, k.control.trans h.control, k.authority.trans h.authority⟩

theorem SameLinks.port {s t : State} (h : SameLinks s t) : ∀ l, t.port l = s.port l
  | .control => h.control
  | .authority => h.authority

theorem OnlyChain.sameLinks {s t : State} : OnlyChain s t → SameLinks s t := by
  rintro ⟨_, _, _, _, _, _, _, _, _, _, _, _, _, rfl⟩; exact ⟨rfl, rfl, rfl⟩

theorem OnlyHazard.sameLinks {s t : State} (h : OnlyHazard s t) : SameLinks s t := h.chain.sameLinks

theorem OnlyNotices.sameLinks {s t : State} (h : OnlyNotices s t) : SameLinks s t := h.faces.hazard.sameLinks

theorem OnlyScan.sameLinks {s t : State} : OnlyScan s t → SameLinks s t := by
  rintro ⟨_, _, _, _, _, _, _, rfl⟩; exact ⟨rfl, rfl, rfl⟩

theorem SameLinks.post {s t : State} (h : SameLinks s t) (b : NoticeBody) : SameLinks s (t.post b) :=
  h.trans (post_only t b).sameLinks

/-- A change made face by face keeps the ports and the queue when each single change does. -/
theorem eachFace_sameLinks {f : FaceNo → State → State} (h : ∀ i t, SameLinks t (f i t)) (s : State) :
    SameLinks s (s.eachFace f) :=
  eachFace_keeps (P := SameLinks s) (fun i t ht => ht.trans (h i t)) s (.refl s)

/-! ### Requests -/

theorem changeMode_sameLinks (s : State) (m : Mode) : SameLinks s (s.changeMode m) :=
  SameLinks.post (s := s) (t := { s with mode := m }) ⟨rfl, rfl, rfl⟩ (.mode m)

theorem completeHalt_sameLinks (s : State) : SameLinks s s.completeHalt :=
  SameLinks.trans (s := s) (t := { s with overrunWaiting := false, cycleTimer := none, mode := .halted }) ⟨rfl, rfl, rfl⟩
    (completeHalt_spec s).sameLinks

theorem haltBegun_sameLinks (s : State) : SameLinks s s.haltBegun := by
  have hhalting := changeMode_sameLinks s .halting
  unfold State.haltBegun
  dsimp only
  split
  · exact hhalting.trans (completeHalt_sameLinks _)
  · exact hhalting

theorem takeHalt_sameLinks (s : State) : SameLinks s s.takeHalt := by
  cases hmode : s.mode with
  | hold => rw [takeHalt_of_hold hmode, ← leaveHold_eq]; exact (leaveHold_only s).sameLinks.trans (haltBegun_sameLinks _)
  | running => rw [takeHalt_of_running hmode]; exact haltBegun_sameLinks s
  | halting => rw [takeHalt_of_stopped (.inl hmode)]; exact .refl s
  | halted => rw [takeHalt_of_stopped (.inr hmode)]; exact .refl s

theorem takeRun_sameLinks (s : State) : SameLinks s s.takeRun := by
  unfold State.takeRun
  split
  · exact (changeMode_sameLinks s _).trans (cycleStart_only _).sameLinks
  · exact changeMode_sameLinks s _
  · exact .refl s
  · exact .refl s

theorem eachFace_takeUpFace_sameLinks (s : State) : SameLinks s (s.eachFace State.takeUpFace) := by
  rw [eachFace_takeUpFace]
  exact ⟨rfl, rfl, rfl⟩

theorem takeResume_sameLinks (s : State) : SameLinks s s.takeResume :=
  ((leaveHold_only s).sameLinks.trans (eachFace_takeUpFace_sameLinks _)).trans (changeMode_sameLinks _ _)

theorem losePlace_sameLinks (n : Span) (i : FaceNo) (s : State) : SameLinks s (State.losePlace n i s) := by
  obtain ⟨f, c, h⟩ := losePlace_only n i s
  rw [h]; exact ⟨rfl, rfl, rfl⟩

theorem changeSpan_sameLinks (s : State) (n : Span) : SameLinks s (s.changeSpan n) := by
  have hplaces : SameLinks s (if n.size < s.span.size then s.eachFace (State.losePlace n) else s) := by
    split
    · exact eachFace_sameLinks (losePlace_sameLinks n) s
    · exact .refl s
  exact hplaces.trans ⟨rfl, rfl, rfl⟩

theorem setEnabled_sameLinks (members : FaceSet) (flag : Bool) (i : FaceNo) (s : State) :
    SameLinks s (State.setEnabled members flag i s) := by
  unfold State.setEnabled; split <;> exact ⟨rfl, rfl, rfl⟩

theorem conditionFace_sameLinks (members : FaceSet) (c : Conditioning) (i : FaceNo) (s : State) :
    SameLinks s (State.conditionFace members c i s) := by
  unfold State.conditionFace; split <;> exact ⟨rfl, rfl, rfl⟩

theorem setClaim_sameLinks (s : State) (i : FaceNo) (c : Option Claim) : SameLinks s (s.setClaim i c) := ⟨rfl, rfl, rfl⟩

theorem claimFace_sameLinks (members : FaceSet) (c : Claim) (i : FaceNo) (s : State) :
    SameLinks s (State.claimFace members c i s) := by
  have hset := setClaim_sameLinks s i (some c)
  unfold State.claimFace
  split
  · split
    · exact hset
    · exact hset.post _
  · exact .refl s

theorem releaseFace_sameLinks (members : FaceSet) (i : FaceNo) (s : State) :
    SameLinks s (State.releaseFace members i s) := by
  unfold State.releaseFace
  split
  · exact (setClaim_sameLinks s i none).post _
  · exact .refl s

theorem setAutosnap_sameLinks (s : State) (on : Bool) : SameLinks s (s.setAutosnap on) := by
  unfold State.setAutosnap; split <;> exact ⟨rfl, rfl, rfl⟩

/-- R168: no request touches a port, its reply apart. -/
theorem RequestEffect.sameLinks {s t : State} (e : RequestEffect s t) : SameLinks s t := by
  cases e with
  | nothing => exact .refl s
  | halt => exact takeHalt_sameLinks s
  | run _ => exact takeRun_sameLinks s
  | resume _ => exact takeResume_sameLinks s
  | span n _ _ => exact changeSpan_sameLinks s n
  | enabled members flag => exact eachFace_sameLinks (setEnabled_sameLinks members flag) s
  | condition members c _ => exact eachFace_sameLinks (conditionFace_sameLinks members c) s
  | restore i _ _ => exact (setFaceDyn_only s i _).hazard.sameLinks.post _
  | autosnap on => exact setAutosnap_sameLinks s on
  | claim set mode hold _ => exact eachFace_sameLinks (claimFace_sameLinks _ _) s
  | release members => exact eachFace_sameLinks (releaseFace_sameLinks members) s
  | dayClock | curfew | scanPeriod | zone | period | retries | curve | face | persist | snapshot | fetch | changes | holdoff
    | collect => exact ⟨rfl, rfl, rfl⟩

/-! ### The chain's events -/

theorem cycleTimerExpiry_sameLinks {s t : State} (e : exec .cycleTimerExpiry s = .next t) : SameLinks s t := by
  cases e
  split
  · exact .refl s
  · split
    · exact SameLinks.post (s := s) (t := { s with overruns := _, overrunWaiting := true, cycleTimer := none })
        ⟨rfl, rfl, rfl⟩ .overrun
    · split
      · exact .refl s
      · exact (cycleStart_only s).sameLinks

theorem chainFrameSent_sameLinks {s t : State} (e : exec .chainFrameSent s = .next t) : SameLinks s t := by
  cases e
  split
  · split
    · exact (withCycle_only s _).sameLinks
    · exact .refl s
  · exact .refl s

theorem replyWindowExpiry_sameLinks {s t : State} (e : exec .replyWindowExpiry s = .next t) : SameLinks s t := by
  cases e
  split
  · split
    · exact (attemptFailed_only s _ _).sameLinks
    · exact (withCycle_only s _).sameLinks
    · exact .refl s
  · exact .refl s

theorem chainByteReceived_sameLinks {s t : State} {b : Byte} (e : exec (.chainByteReceived b) s = .next t) :
    SameLinks s t := by
  cases e
  split
  · split
    · exact .refl s
    · split
      · exact (withCycle_only s _).sameLinks
      · exact .refl s
    · exact (replyByte_only s _ _ _ _ _).sameLinks
  · exact .refl s

theorem chainReplyGapTimeout_sameLinks {s t : State} (e : exec .chainReplyGapTimeout s = .next t) : SameLinks s t := by
  cases e
  split
  · split
    · exact (attemptFailed_only s _ _).sameLinks
    · exact .refl s
    · exact .refl s
  · exact .refl s

/-! ### Scans and seconds -/

theorem scanTimerExpiry_sameLinks {s t : State} (e : exec .scanTimerExpiry s = .next t) : SameLinks s t := by
  cases e
  split
  · exact .refl s
  · exact (show SameLinks s { s with scanTimer := some s.scanPeriod } from ⟨rfl, rfl, rfl⟩).trans (startScan_only _).sameLinks

theorem sensorPollEnd_sameLinks {s t : State} {r : PollEnd} (e : exec (.sensorPollEnd r) s = .next t) : SameLinks s t := by
  cases e
  split
  · split
    · exact (endPoll_only s _ _ _).sameLinks
    · exact (endPoll_only s _ _ _).sameLinks
  · exact .refl s

theorem sensorPollTimeout_sameLinks {s t : State} (e : exec .sensorPollTimeout s = .next t) : SameLinks s t := by
  cases e
  split
  · exact (endPoll_only s _ _ _).sameLinks
  · exact .refl s

theorem lapseClaim_sameLinks (i : FaceNo) (s : State) : SameLinks s (s.lapseClaim i) := by
  rw [lapseClaim_eq]
  refine SameLinks.post ?_ _
  exact ⟨rfl, rfl, rfl⟩

theorem claimsSecond_sameLinks (s : State) : SameLinks s s.claimsSecond := by
  rw [claimsSecond_eq]
  exact SameLinks.trans (s := s)
    (t := { s with claims := s.claims.map (fun c => c.bind Claim.second), lapsed := s.lapsed ||| faceSetOf s.lapsing })
    ⟨rfl, rfl, rfl⟩ (postAll_only _ _).sameLinks

theorem autoSnapshotNow_sameLinks (s : State) : SameLinks s s.autoSnapshotNow :=
  SameLinks.post (s := s) (t := State.takeSnapshot { s with autoCount := 0 }) ⟨rfl, rfl, rfl⟩ .snapshot

theorem bankSecond_sameLinks (s : State) : SameLinks s s.bankSecond := by
  unfold State.bankSecond
  split
  · split
    · exact autoSnapshotNow_sameLinks s
    · exact ⟨rfl, rfl, rfl⟩
  · exact .refl s

theorem claimsAndBankSecond_sameLinks (s : State) : SameLinks s s.claimsAndBankSecond := by
  have hchoice : SameLinks s { s with freeChoices := s.freeChoices + 1 } := ⟨rfl, rfl, rfl⟩
  unfold State.claimsAndBankSecond
  split
  · dsimp only
    split
    · exact (hchoice.trans (bankSecond_sameLinks _)).trans (claimsSecond_sameLinks _)
    · exact (hchoice.trans (claimsSecond_sameLinks _)).trans (bankSecond_sameLinks _)
  · exact (claimsSecond_sameLinks _).trans (bankSecond_sameLinks _)

theorem oneSecondEvent_sameLinks {s t : State} (e : exec .oneSecondEvent s = .next t) : SameLinks s t := by
  cases e
  split
  · exact .refl s
  · have htime : SameLinks s { s with seconds := s.seconds + 1#16, dayClock := s.dayClock.map nextSecondOfDay } :=
      ⟨rfl, rfl, rfl⟩
    exact (htime.trans (claimsAndBankSecond_sameLinks _)).trans ⟨rfl, rfl, rfl⟩

theorem claimLapse_sameLinks {s t : State} {i : FaceNo} (e : exec (.claimLapse i) s = .next t) : SameLinks s t := by
  cases e
  split
  · split
    · exact lapseClaim_sameLinks i s
    · exact .refl s
  · exact .refl s

theorem autoSnapshot_sameLinks {s t : State} (e : exec .autoSnapshot s = .next t) : SameLinks s t := by
  cases e
  split
  · exact autoSnapshotNow_sameLinks s
  · exact .refl s

theorem holdoffExpiry_sameLinks {s t : State} (e : exec .holdoffExpiry s = .next t) : SameLinks s t := by
  cases e
  split <;> exact ⟨rfl, rfl, rfl⟩

/-! ### Resets -/

/-- A reset begun or extended leaves the queue of commands, which is the model's own (log entry 2). -/
theorem beginReset_pending (s : State) (cause : ResetCause) : (s.beginReset cause).pending = s.pending := rfl

theorem finishReset_pending (s : State) (cause : ResetCause) (straps : Straps) :
    (s.finishReset cause straps).pending = s.pending := by
  unfold State.finishReset
  refine (cycleStart_only _).sameLinks.pending.trans ((post_pending _ _).trans ?_)
  show (if cause.cold then s.coldConfiguration (strapWidth straps) else s).pending = s.pending
  split <;> rfl

theorem tryFinish_pending (s : State) (straps : Straps) : (s.tryFinish straps).pending = s.pending := by
  unfold State.tryFinish
  split
  · split
    · exact finishReset_pending s _ straps
    · rfl
  · rfl

theorem replySent_keeps_pending {s t : State} {l : Link} {straps : Straps} (e : exec (.replySent l straps) s = .next t) :
    t.pending = s.pending := by
  cases e
  split
  · dsimp only
    split
    · rw [tryFinish_pending, beginReset_pending, setPort_pending]
    · exact setPort_pending s l _
  · rfl

theorem resetPinLow_keeps_pending {s t : State} (e : exec .resetPinLow s = .next t) : t.pending = s.pending := by
  cases e
  split <;> rfl

theorem supplyDip_keeps_pending {s t : State} (e : exec .supplyDip s = .next t) : t.pending = s.pending := by
  cases e
  split <;> rfl

theorem supplyOff_keeps_pending {s t : State} (e : exec .supplyOff s = .next t) : t.pending = s.pending := by
  cases e
  rfl

theorem resetPinRelease_keeps_pending {s t : State} {straps : Straps} (e : exec (.resetPinRelease straps) s = .next t) :
    t.pending = s.pending := by
  cases e
  exact tryFinish_pending _ straps

theorem supplyRecovery_keeps_pending {s t : State} {straps : Straps} (e : exec (.supplyRecovery straps) s = .next t) :
    t.pending = s.pending := by
  cases e
  exact tryFinish_pending _ straps

/-! ### Every command -/

/-- No command touches the queue of commands. -/
theorem exec_keeps_pending {i : Instr} {s t : State} (e : exec i s = .next t) : t.pending = s.pending := by
  have hport : ∀ (u : State) l p, u.pending = s.pending → (u.setPort l p).pending = s.pending := fun u l p hu =>
    (setPort_pending u l p).trans hu
  have heffect : ∀ u v, RequestEffect u v → u.pending = s.pending → v.pending = s.pending := fun _ _ he hu =>
    he.sameLinks.pending.trans hu
  cases i
  case linkByteReceived => exact linkByteReceived_keeps (P := fun u => u.pending = s.pending) hport heffect rfl e
  case linkFrameTimeout => exact linkFrameTimeout_keeps (P := fun u => u.pending = s.pending) hport rfl e
  case replySent => exact replySent_keeps_pending e
  case cycleTimerExpiry => exact (cycleTimerExpiry_sameLinks e).pending
  case chainFrameSent => exact (chainFrameSent_sameLinks e).pending
  case replyWindowExpiry => exact (replyWindowExpiry_sameLinks e).pending
  case chainByteReceived => exact (chainByteReceived_sameLinks e).pending
  case chainReplyGapTimeout => exact (chainReplyGapTimeout_sameLinks e).pending
  case scanTimerExpiry => exact (scanTimerExpiry_sameLinks e).pending
  case sensorPollEnd => exact (sensorPollEnd_sameLinks e).pending
  case sensorPollTimeout => exact (sensorPollTimeout_sameLinks e).pending
  case oneSecondEvent => exact (oneSecondEvent_sameLinks e).pending
  case claimLapse => exact (claimLapse_sameLinks e).pending
  case autoSnapshot => exact (autoSnapshot_sameLinks e).pending
  case holdoffExpiry => exact (holdoffExpiry_sameLinks e).pending
  case resetPinLow => exact resetPinLow_keeps_pending e
  case resetPinRelease => exact resetPinRelease_keeps_pending e
  case supplyDip => exact supplyDip_keeps_pending e
  case supplyOff => exact supplyOff_keeps_pending e
  case supplyRecovery => exact supplyRecovery_keeps_pending e
  all_goals exact request_keeps (P := fun u => u.pending = s.pending) hport heffect rfl rfl e

/-- Settles O2: every arm of the dispatch answers a next state, and no command touches the queue. -/
theorem everyCommandAnswers : Obligations.EveryCommandAnswers := by
  unfold Obligations.EveryCommandAnswers
  intro c s
  obtain ⟨t, h⟩ := exec_next c s
  exact ⟨t, h, exec_keeps_pending h⟩

end Sys2Proof.Machine
end

section
/-! Requests refused, and the port of a request (O3). Every judgement answers DONE or refuses, and leaves the state as it was when it
refuses. -/

namespace Sys2Proof.Machine

/-! ### Refusals (R169) -/

/-- What a judgement in `s` can come to: DONE with some next state, or a refusal that leaves `s`. -/
inductive Judged (s : State) : Answer × State → Prop
  | done (clamped : Bool) (data : List Byte) (t : State) : Judged s (.done clamped data, t)
  | refused (reason : Reason) : Judged s (refuse reason s)

/-- R169: a refused request changes nothing. -/
theorem Judged.unchanged {s : State} {p : Answer × State} {reason : Reason} (h : Judged s p) (hr : p.1 = .refused reason) :
    p.2 = s := by
  cases h with
  | done => cases hr
  | refused => rfl

theorem judgeZoneFields_judged (zone : Byte) (f : ZoneFields) (s : State) : Judged s (judgeZoneFields zone f s) := by
  unfold judgeZoneFields
  split
  · exact .refused _
  · dsimp only
    split
    · exact .refused _
    · split
      · exact .refused _
      · exact .done _ _ _

theorem judgeCurve_judged (number : Byte) (l : List Breakpoint) (s : State) : Judged s (judgeCurve number l s) := by
  unfold judgeCurve
  split
  · exact .refused _
  · split
    · exact .done _ _ _
    · exact .refused _

theorem judgeFaceFields_judged (face : Byte) (f : FaceFields) (s : State) : Judged s (judgeFaceFields face f s) := by
  unfold judgeFaceFields
  split
  · exact .done _ _ _
  · exact .refused _

theorem judgeEnabling_judged (flag : Bool) (payload : List Byte) (s : State) : Judged s (judgeEnabling flag payload s) := by
  unfold judgeEnabling; split; exact .done _ _ _; exact .refused _

/-- R169: the judgement of every request, by its kind and the tests that it makes. -/
theorem judgeKind_judged (kind : RequestKind) (payload : List Byte) (s : State) : Judged s (judgeKind kind payload s) := by
  cases kind <;> simp only [judgeKind]
  case ping => unfold judgePing; split; exact .done _ _ _; exact .refused _
  case status => unfold judgeStatus; split; exact .done _ _ _; exact .refused _
  case reset => unfold judgeReset; split; exact .done _ _ _; exact .refused _
  case run =>
    unfold judgeRun; split
    · split
      · exact .refused _
      · exact .done _ _ _
    · exact .refused _
  case halt => unfold judgeHalt; split; exact .done _ _ _; exact .refused _
  case resume =>
    unfold judgeResume; split
    · split
      · exact .done _ _ _
      · exact .refused _
    · exact .refused _
  case setTime =>
    unfold judgeSetTime; split
    · exact .done _ _ _
    · dsimp only; split
      · exact .refused _
      · exact .done _ _ _
    · exact .refused _
  case setCurfew => unfold judgeSetCurfew; split; exact .done _ _ _; exact .done _ _ _; exact .refused _
  case setScan => unfold judgeSetScan; split; exact .done _ _ _; exact .done _ _ _; exact .refused _
  case setZone =>
    unfold judgeSetZone; split
    · split
      · exact judgeZoneFields_judged _ _ s
      · exact .refused _
    · exact .refused _
  case readZone => unfold judgeReadZone; split; split; exact .done _ _ _; exact .refused _; exact .refused _
  case readSensor => unfold judgeReadSensor; split; split; exact .done _ _ _; exact .refused _; exact .refused _
  case setCycle => unfold judgeSetCycle; split; exact .done _ _ _; exact .done _ _ _; exact .refused _
  case setRetries => unfold judgeSetRetries; split; exact .done _ _ _; exact .done _ _ _; exact .refused _
  case setSpan =>
    unfold judgeSetSpan; split
    · exact .done _ _ _
    · split
      · exact .refused _
      · split
        · exact .refused _
        · split
          · exact .refused _
          · exact .done _ _ _
    · exact .refused _
  case loadCurve =>
    unfold judgeLoadCurve; split
    · split
      · exact judgeCurve_judged _ _ s
      · exact .refused _
    · exact .refused _
  case readCurve => unfold judgeReadCurve; split; split; exact .done _ _ _; exact .refused _; exact .refused _
  case setFace =>
    unfold judgeSetFace; split
    · split
      · exact judgeFaceFields_judged _ _ s
      · exact .refused _
    · exact .refused _
  case enable => exact judgeEnabling_judged true payload s
  case disable => exact judgeEnabling_judged false payload s
  case condition =>
    unfold judgeCondition; split
    · dsimp only; split
      · exact .done _ _ _
      · exact .done _ _ _
      · exact .refused _
    · exact .refused _
  case restore =>
    unfold judgeRestore; split
    · dsimp only; split
      · exact .done _ _ _
      · exact .refused _
    · exact .refused _
  case readFace => unfold judgeReadFace; split; exact .done _ _ _; exact .refused _
  case setPersist =>
    unfold judgeSetPersist; split
    · split
      · split
        · exact .done _ _ _
        · exact .refused _
      · exact .refused _
    · exact .refused _
  case snapshot => unfold judgeSnapshot; split; exact .done _ _ _; exact .refused _
  case setAutosnap =>
    unfold judgeSetAutosnap; split
    · exact .done _ _ _
    · split
      · exact .done _ _ _
      · exact .refused _
    · exact .refused _
  case readCounts => unfold judgeReadCounts; split; exact .done _ _ _; exact .refused _
  case fetch => unfold judgeFetch; split; exact .done _ _ _; exact .refused _
  case changes => unfold judgeChanges; split; exact .done _ _ _; exact .refused _
  case setHoldoff => unfold judgeSetHoldoff; split; exact .done _ _ _; exact .done _ _ _; exact .refused _
  case authStatus => unfold judgeAuthStatus; split; exact .done _ _ _; exact .refused _
  case authReadFace => unfold judgeAuthReadFace; split; exact .done _ _ _; exact .refused _
  case claim =>
    unfold judgeClaim; split
    · split
      · exact .done _ _ _
      · exact .refused _
    · exact .refused _
  case release => unfold judgeRelease; split; exact .done _ _ _; exact .refused _

/-! ### One reply, or the frame discarded (R168, R169) -/

/-- R167, R168: a frame discarded, in the words of the statements. -/
theorem discardFrame_eq (s : State) (l : Link) :
    s.discardFrame l = s.setPort l { s.port l with errors := min 255 ((s.port l).errors + 1) } := rfl

/-- Settles O3: the reply is the judgement's, whose effect touches no port; a port with a reply on its way only counts the frame. -/
theorem oneReplyOrDiscarded : Obligations.OneReplyOrDiscarded := by
  unfold Obligations.OneReplyOrDiscarded
  intro i r s hi
  refine ⟨fun htakes => ?_, fun hr hpending => ?_⟩
  · rcases hj : judgeKind r.kind r.payload s with ⟨a, t⟩
    have heffect := judgeKind_effect r.kind r.payload s
    have hjudged := judgeKind_judged r.kind r.payload s
    rw [hj] at heffect hjudged
    have hlinks : SameLinks s t := heffect.sameLinks
    refine ⟨a, t.answered r.kind r.tag a, exec_taken hi htakes hj, ?_, fun l hl => ?_, fun reason ha => ?_⟩
    · rw [State.answered, port_setPort_self, hlinks.port]
    · rw [State.answered, port_setPort_ne _ hl, hlinks.port]
    · have ht : t = s := hjudged.unchanged ha
      rw [ht, ha]
  · rw [exec_request hi, takeRequest_busy hr (Option.isSome_iff_ne_none.mpr hpending), discardFrame_eq]

end Sys2Proof.Machine
end

section
/-! A frame on a link, byte by byte (O5 to O7): what each byte does to a port in each state, and a whole frame fed to a waiting port, whose
effect is the taking of the request that its kind code names. -/

namespace Sys2Proof.Machine

/-! ### The receiver replaced -/

theorem setReceiver_eq (s : State) (l : Link) (r : Receiver) : s.setReceiver l r = s.setPort l { s.port l with receiver := r } := rfl

@[simp] theorem setReceiver_resetting (s : State) (l : Link) (r : Receiver) : (s.setReceiver l r).resetting = s.resetting :=
  setPort_resetting s l _

@[simp] theorem setReceiver_receiver (s : State) (l : Link) (r : Receiver) : ((s.setReceiver l r).port l).receiver = r := by
  rw [setReceiver_eq, port_setPort_self]

@[simp] theorem setReceiver_setReceiver (s : State) (l : Link) (q r : Receiver) :
    (s.setReceiver l q).setReceiver l r = s.setReceiver l r := by
  simp only [setReceiver_eq, port_setPort_self, setPort_setPort]

/-- A port given the receiver that it has. -/
theorem setReceiver_self {s : State} {l : Link} {r : Receiver} (h : (s.port l).receiver = r) : s.setReceiver l r = s := by
  subst h
  exact setPort_port s l

/-- R167: a frame dropped: one more counted, and the port waiting again. -/
theorem setReceiver_discardFrame (s : State) (l : Link) : (s.setReceiver l .waiting).discardFrame l = s.discarded l := by
  simp only [setReceiver_eq, discardFrame_eq, port_setPort_self, setPort_setPort]
  rfl

/-! ### The last bytes of a frame (R167) -/

/-- A frame complete with a bad CRC is discarded. -/
theorem frameComplete_badCrc {body : List Byte} {hi lo : Byte} (h : [hi, lo] ≠ crcBytes (crcOf body)) (s : State) (l : Link) :
    s.frameComplete l (body ++ [hi, lo]) = s.discarded l := by
  unfold State.frameComplete
  simp [Ne.symm h, setReceiver_discardFrame]

/-- A frame complete with its own CRC hands its kind, tag and payload on. -/
theorem frameComplete_goodCrc (n kind tag : Byte) (payload : List Byte) (s : State) (l : Link) :
    s.frameComplete l (n :: kind :: tag :: payload ++ crcBytes (crcOf (n :: kind :: tag :: payload))) =
      (s.setReceiver l .waiting).takeRequest l kind tag (judgeFrame l kind payload) := by
  unfold State.frameComplete
  simp [crcBytes]

/-! ### A byte of a frame, by the bytes taken before it (R167) -/

/-- The length byte is judged at once. -/
theorem frameByte_length (s : State) (l : Link) (b : Byte) :
    s.frameByte l [] b = if b.toNat < 2 ∨ 200 < b.toNat then s.discarded l else s.setReceiver l (.receiving [b]) := by
  unfold State.frameByte
  rw [setReceiver_discardFrame]

/-- The bytes up to the first one of the CRC are kept. -/
theorem frameByte_kept {n : Byte} {rest : List Byte} (h : rest.length ≤ n.toNat) (s : State) (l : Link) (b : Byte) :
    s.frameByte l (n :: rest) b = s.setReceiver l (.receiving (n :: (rest ++ [b]))) := by
  have hmore : (n :: rest).length + 1 < n.toNat + 3 := by rw [List.length_cons]; omega
  exact if_pos hmore

/-- The second byte of the CRC completes the frame. -/
theorem frameByte_last {n : Byte} {rest : List Byte} (h : rest.length = n.toNat + 1) (s : State) (l : Link) (b : Byte) :
    s.frameByte l (n :: rest) b = s.frameComplete l (n :: (rest ++ [b])) := by
  have hlast : ¬(n :: rest).length + 1 < n.toNat + 3 := by rw [List.length_cons]; omega
  exact if_neg hlast

/-! ### A byte on a link, by the port's receiver -/

section Bytes

variable {s : State} {l : Link} (hr : s.resetting = false)
include hr

theorem linkByte_waiting_ignored {b : Byte} {e : Bool} (h : (s.port l).receiver = .waiting) (hb : b ≠ 0xB4#8 ∨ e = true) :
    exec (.linkByteReceived l b e) s = .next s := by
  have hno : ¬(b = Config.linkStart ∧ e = false) := by
    rintro ⟨hstart, hgood⟩
    rcases hb with hb | hb
    · exact hb hstart
    · exact absurd (hgood.symm.trans hb) Bool.false_ne_true
  simp [exec, execLinkByteReceived, hr, h, if_neg hno]

theorem linkByte_waiting_start (h : (s.port l).receiver = .waiting) :
    exec (.linkByteReceived l 0xB4#8 false) s = .next (s.setReceiver l (.receiving [])) := by
  simp [exec, execLinkByteReceived, hr, h, Config.linkStart]

theorem linkByte_receiving_error {taken : List Byte} (h : (s.port l).receiver = .receiving taken) (b : Byte) :
    exec (.linkByteReceived l b true) s = .next (s.discarded l) := by
  simp [exec, execLinkByteReceived, hr, h, setReceiver_discardFrame]

theorem linkByte_receiving {taken : List Byte} (h : (s.port l).receiver = .receiving taken) (b : Byte) :
    exec (.linkByteReceived l b false) s = .next (s.frameByte l taken b) := by
  simp [exec, execLinkByteReceived, hr, h]

end Bytes

theorem linkFrameTimeout_receiving {s : State} {l : Link} {taken : List Byte} (h : (s.port l).receiver = .receiving taken) :
    exec (.linkFrameTimeout l) s = .next (s.discarded l) := by
  simp only [exec, execLinkFrameTimeout, h, setReceiver_discardFrame]

/-- Settles O7: by the port's receiver, and in a frame by the bytes taken. -/
theorem frameReception : Obligations.FrameReception := by
  unfold Obligations.FrameReception
  intro l b e s hr
  split
  · rename_i hwaiting
    refine ⟨linkFrameTimeout_waiting hwaiting, linkByte_waiting_ignored hr hwaiting, ?_⟩
    rintro rfl rfl
    exact linkByte_waiting_start hr hwaiting
  · rename_i taken hreceiving
    refine ⟨linkFrameTimeout_receiving hreceiving, linkByte_receiving_error hr hreceiving b, ?_, ?_, ?_⟩
    · rintro rfl
      rw [linkByte_receiving hr hreceiving, frameByte_length, setReceiver_eq]
    · rintro n rest rfl hlength
      rw [linkByte_receiving hr hreceiving, frameByte_kept hlength, setReceiver_eq]
    · rintro n hi body rfl hlength hcrc
      rw [linkByte_receiving hr hreceiving, List.cons_append,
        frameByte_last (by rw [List.length_append, hlength, List.length_singleton]), List.append_assoc]
      exact congrArg _ (frameComplete_badCrc hcrc s l)

/-! ### Bytes fed one after the other -/

theorem feedLink_cons {s t : State} {l : Link} {b : Byte} (h : exec (.linkByteReceived l b false) s = .next t) (bs : List Byte) :
    feedLink l (b :: bs) s = feedLink l bs t := by
  simp only [feedLink, h]

/-- A byte at a port that has been brought to receive a frame. -/
theorem linkByte_setReceiving {s : State} (hr : s.resetting = false) (l : Link) (taken : List Byte) (b : Byte) :
    exec (.linkByteReceived l b false) (s.setReceiver l (.receiving taken)) =
      .next ((s.setReceiver l (.receiving taken)).frameByte l taken b) :=
  linkByte_receiving ((setReceiver_resetting s l _).trans hr) (setReceiver_receiver s l _) b

/-- The bytes up to the first one of the CRC, fed to a port that has taken the length byte, are all kept. -/
theorem feedLink_kept {s : State} {l : Link} {n : Byte} (hr : s.resetting = false) (more : List Byte) :
    ∀ bs rest : List Byte, rest.length + bs.length ≤ n.toNat + 1 →
      feedLink l (bs ++ more) (s.setReceiver l (.receiving (n :: rest))) =
        feedLink l more (s.setReceiver l (.receiving (n :: (rest ++ bs)))) := by
  intro bs
  induction bs with
  | nil => intro rest _; rw [List.append_nil, List.nil_append]
  | cons b bs ih =>
    intro rest hlength
    rw [List.length_cons] at hlength
    have hkept : rest.length ≤ n.toNat := by omega
    have hmore : (rest ++ [b]).length + bs.length ≤ n.toNat + 1 := by rw [List.length_append, List.length_singleton]; omega
    rw [List.cons_append, feedLink_cons (linkByte_setReceiving hr l _ b), frameByte_kept hkept, setReceiver_setReceiver,
      ih _ hmore, List.append_assoc, List.singleton_append]

/-- A frame's length byte, kind, tag and payload, fed with a byte more to a port that has seen the start byte, are all kept. -/
theorem feedLink_body {s : State} {l : Link} {n : Byte} {payload : List Byte} (hr : s.resetting = false)
    (hn : n.toNat = payload.length + 2) (hfits : payload.length ≤ 198) (kind tag hi : Byte) (more : List Byte) :
    feedLink l (n :: ((kind :: tag :: payload ++ [hi]) ++ more)) (s.setReceiver l (.receiving [])) =
      feedLink l more (s.setReceiver l (.receiving (n :: (kind :: tag :: payload ++ [hi])))) := by
  have hlength : ([] : List Byte).length + (kind :: tag :: payload ++ [hi]).length ≤ n.toNat + 1 := by simp [hn]
  rw [feedLink_cons (linkByte_setReceiving hr l _ n), frameByte_length, if_neg (by omega), setReceiver_setReceiver,
    feedLink_kept hr _ _ _ hlength, List.nil_append]

/-- The last byte of a frame with its own CRC, at a port that has taken the others, hands its kind, tag and payload on. -/
theorem frameByte_goodCrc {n kind tag hi lo : Byte} {payload : List Byte} (hn : n.toNat = payload.length + 2)
    (hcrc : crcBytes (crcOf (n :: kind :: tag :: payload)) = [hi, lo]) (s : State) (l : Link) :
    s.frameByte l (n :: (kind :: tag :: payload ++ [hi])) lo =
      (s.setReceiver l .waiting).takeRequest l kind tag (judgeFrame l kind payload) := by
  have hframe : n :: (kind :: tag :: payload ++ [hi] ++ [lo]) = n :: kind :: tag :: payload ++ [hi, lo] := by
    rw [List.append_assoc]; rfl
  rw [frameByte_last (by simp [hn]), hframe, ← hcrc, frameComplete_goodCrc]

/-- R167, R168: the frame of any kind, tag and payload that fits, fed to a waiting port, is taken as the request that its kind names. -/
theorem feedLink_linkFrame {s : State} {l : Link} (hr : s.resetting = false) (hw : (s.port l).receiver = .waiting)
    (kind tag : Byte) {payload : List Byte} (hfits : payload.length ≤ 198) :
    feedLink l (linkFrame kind tag payload) s = .next (s.takeRequest l kind tag (judgeFrame l kind payload)) := by
  obtain ⟨n, hbyte⟩ : ∃ n : Byte, BitVec.ofNat 8 (payload.length + 2) = n := ⟨_, rfl⟩
  have hn : n.toNat = payload.length + 2 := by
    rw [← hbyte, BitVec.toNat_ofNat]
    exact Nat.mod_eq_of_lt (by omega)
  obtain ⟨hi, lo, hcrc⟩ : ∃ hi lo, crcBytes (crcOf (n :: kind :: tag :: payload)) = [hi, lo] := ⟨_, _, rfl⟩
  have hframe : linkFrame kind tag payload = 0xB4#8 :: n :: ((kind :: tag :: payload ++ [hi]) ++ [lo]) := by
    rw [List.append_assoc, linkFrame, bytes1, hbyte]
    exact congrArg (0xB4#8 :: n :: kind :: tag :: payload ++ ·) hcrc
  rw [hframe, feedLink_cons (linkByte_waiting_start hr hw), feedLink_body hr hn hfits,
    feedLink_cons (linkByte_setReceiving hr l _ lo), frameByte_goodCrc hn hcrc, setReceiver_setReceiver, setReceiver_self hw]
  rfl

/-- A link frame, byte by byte. -/
theorem linkFrame_eq (kind tag : Byte) (payload : List Byte) :
    linkFrame kind tag payload = [0xB4#8, BitVec.ofNat 8 (payload.length + 2), kind, tag] ++ payload
      ++ crcBytes (crcOf ([BitVec.ofNat 8 (payload.length + 2), kind, tag] ++ payload)) := rfl

/-- R169: a frame with a request's own code is judged as that request. -/
theorem judgeFrame_code (k : RequestKind) : judgeFrame k.link k.code = judgeKind k := by
  funext payload s
  simp only [judgeFrame, (Laws.RequestTable.of_kind k).1]

/-- R169, test 1: a code that none of the link's requests has. -/
theorem judgeFrame_unknown {l : Link} {kind : Byte} (h : ∀ k : RequestKind, k.link = l → k.code ≠ kind) (payload : List Byte)
    (s : State) : judgeFrame l kind payload s = refuse .unknownKind s := by
  have hnone : requestOf l kind = none := by
    rw [requestOf, List.find?_eq_none]
    intro k _ hk
    rw [Bool.and_eq_true, beq_iff_eq, beq_iff_eq] at hk
    exact h k hk.1 hk.2
  simp only [judgeFrame, hnone]

/-- R167: what the well-formedness of a request says of its payload. -/
theorem payload_fits {i : Instr} {r : Request} (hi : i.request = some r) (h : i.wellFormed = true) : r.payload.length ≤ 198 := by
  rw [Instr.wellFormed, hi] at h
  exact of_decide_eq_true h

/-- Settles O5: the frame is taken as the request that its code names, which is the command. -/
theorem frameByteByByteIsItsRequest : Obligations.FrameByteByByteIsItsRequest := by
  unfold Obligations.FrameByteByByteIsItsRequest
  intro i r s hi hwell hr hw
  rw [← linkFrame_eq, feedLink_linkFrame hr hw _ _ (payload_fits hi hwell), judgeFrame_code, exec_request hi]

/-- Settles O6: the frame is taken, and its code names no request of the link. -/
theorem unknownKindRefused : Obligations.UnknownKindRefused := by
  unfold Obligations.UnknownKindRefused
  intro l kind tag payload s hkind hfits ⟨hr, hreply⟩ hw
  rw [← linkFrame_eq, feedLink_linkFrame hr hw _ _ hfits, takeRequest_taken hr hreply, judgeFrame_unknown hkind]
  rfl

end Sys2Proof.Machine
end

section
/-! The CRC and the frames of replies (O8), the end of a reply's sending (O9), PING (O10) and STATUS (O11). -/

namespace Sys2Proof.Machine

/-! ### The CRC (R167) -/

/-- The bit that the division by 1021 hex looks at is the most significant one. -/
theorem crcBit_eq (c : BitVec 16) : crcBit c = if 32768 ≤ c.toNat then (c <<< 1) ^^^ 0x1021#16 else c <<< 1 := by
  have hmsb : c.getLsbD 15 = decide (32768 ≤ c.toNat) := BitVec.msb_eq_decide c
  simp only [crcBit, hmsb, decide_eq_true_eq]

/-! ### The bytes of a reply (R172) -/

theorem frame_done (kind tag : Byte) (clamped : Bool) (data : List Byte) :
    (Reply.mk kind tag (.done clamped data)).frame = linkFrame 0x80#8 tag (kind :: byteFlag clamped ++ data) := rfl

theorem frame_refused (kind tag : Byte) (reason : Reason) :
    (Reply.mk kind tag (.refused reason)).frame = linkFrame 0x81#8 tag (kind :: bytes1 reason.no) := rfl

theorem bytes1_reason (reason : Reason) :
    bytes1 reason.no = [match reason with
      | .unknownKind => 1#8 | .badLength => 2#8 | .badValue => 3#8 | .wrongMode => 4#8 | .wrongState => 5#8] := by
  cases reason <;> rfl

/-- Settles O8: the CRC's values by evaluation, the replies' bytes as those of a link frame. -/
theorem crcAndReplyFrames : Obligations.CrcAndReplyFrames := by
  unfold Obligations.CrcAndReplyFrames
  refine ⟨⟨by decide +kernel, rfl, rfl, crcBit_eq⟩, fun kind tag clamped data => ?_, fun kind tag reason => ?_⟩
  · rw [frame_done, linkFrame_eq]
    rfl
  · rw [frame_refused, linkFrame_eq, bytes1_reason]
    rfl

/-! ### The end of a reply's sending (R168) -/

/-- R164: only the DONE of a RESET asks for a reset. -/
theorem asksReset_eq_false {r : Reply} (h : r.kind ≠ 0x03#8 ∨ ∃ reason, r.answer = .refused reason) : r.asksReset = false := by
  unfold Reply.asksReset
  cases ha : r.answer with
  | done clamped data =>
    rcases h with hkind | ⟨reason, hrefused⟩
    · exact beq_eq_false_iff_ne.mpr hkind
    · exact absurd (ha.symm.trans hrefused) nofun
  | refused reason => rfl

theorem exec_replySent_of_noReset {s : State} {l : Link} {r : Reply} (h : (s.port l).reply = some r) (hr : r.asksReset = false)
    (straps : Straps) : exec (.replySent l straps) s = .next (s.setPort l { s.port l with reply := none }) := by
  simp [exec, execReplySent, h, hr]

/-- Settles O9: by the reply on its way. -/
theorem replySent : Obligations.ReplySent := by
  unfold Obligations.ReplySent
  intro l straps s
  split
  · rename_i hnone; exact replySent_none hnone straps
  · rename_i r hreply; exact fun h => exec_replySent_of_noReset hreply (asksReset_eq_false h) straps

/-! ### PING and STATUS (R170, R171) -/

/-- Settles O10: by the length of the payload. -/
theorem pingIdentity : Obligations.PingIdentity := by
  unfold Obligations.PingIdentity
  intro tag payload s h
  cases payload with
  | nil => exact exec_taken (r := ⟨.ping, tag, []⟩) rfl h rfl
  | cons a rest => exact exec_taken (r := ⟨.ping, tag, a :: rest⟩) rfl h rfl

/-- R171: the data of a STATUS reply, field by field. -/
theorem statusData_eq (s : State) :
    s.statusData =
      [s.mode.code, s.lastCause.code] ++ maybeBytes 3 s.dayClock ++ fieldBytes 4 s.cycleCount.toNat
        ++ fieldBytes 2 s.overruns ++ fieldBytes 1 s.queue.length ++ [flagByte s.otherLost]
        ++ fieldBytes 1 (allFaces.filter (fun i => s.hazard.getLsbD i.val)).length
        ++ fieldBytes 1 s.control.errors ++ fieldBytes 1 s.authority.errors := by
  rw [State.statusData, bytes1_mode, bytes1_resetCause, byteOption_eq bytes3_eq]
  simp only [bytes4_eq, bytes2_eq, bytes1_eq, byteFlag_eq]
  rfl

/-- Settles O11: by the length of the payload. -/
theorem statusReport : Obligations.StatusReport := by
  unfold Obligations.StatusReport
  intro tag payload s h
  cases payload with
  | nil => rw [if_pos rfl, ← statusData_eq]; exact exec_taken (r := ⟨.status, tag, []⟩) rfl h rfl
  | cons a rest => exact exec_taken (r := ⟨.status, tag, a :: rest⟩) rfl h rfl

end Sys2Proof.Machine
end

section
/-! The step (O1): one equation for each form of the queue of commands. -/

namespace Sys2Proof.Machine

/-- With nothing waiting the part idles (log entry 2). -/
theorem step_of_pending_nil {s : State} (h : s.pending = []) : step s = .next s := by
  rw [step, h]

/-- The command at the front runs with the rest of the queue behind it. -/
theorem step_of_pending_cons {s : State} {c : Instr} {rest : List Instr} (h : s.pending = c :: rest) :
    step s = exec c { s with pending := rest } := by
  rw [step, h]

/-- Settles O1: by the form of the queue. -/
theorem stepTakesFrontCommand : Obligations.StepTakesFrontCommand := by
  unfold Obligations.StepTakesFrontCommand
  constructor
  · intro s c rest
    exact step_of_pending_cons (s := { s with pending := c :: rest }) rfl
  · intro s hidle
    exact step_of_pending_nil hidle

end Sys2Proof.Machine
end
